-- ==== Sys2Proof/Word.lean ====
section
/-!
DEFINITION. The words MODEM computes with (spec 00_scope R15 to R17): 32-bit bus words, 16-bit levels and
samples, 8-bit payload bytes, 4-bit symbols, and the bank of eight like registers that ENC_INC, DET_LEVEL and
DET_OFFSET are.
-/

namespace Sys2Proof

/-- A bus data word or a bus address offset (R15). -/
abbrev Word := BitVec 32

/-- A spectral level, a PCM sample or a 16-bit counter (R10, R15). -/
abbrev Half := BitVec 16

/-- A payload byte, a frame byte or the CRC register. -/
abbrev Byte := BitVec 8

/-- A symbol: one nibble's worth of information (R20). -/
abbrev Nibble := BitVec 4

/-- Eight registers of one kind, numbered 0 to 7 by address bits [4:2] (R123): the tones of the alphabet
(R46), the raw levels (R53) or the background levels (R54). -/
structure Bank (α : Type) where
  b0 : α
  b1 : α
  b2 : α
  b3 : α
  b4 : α
  b5 : α
  b6 : α
  b7 : α
  deriving DecidableEq, Repr

/-- All eight registers holding the same value. -/
def Bank.fill {α : Type} (x : α) : Bank α := ⟨x, x, x, x, x, x, x, x⟩

end Sys2Proof
end

