-- ==== Sys2Proof/Config.lean ====
section
/-!
DEFINITION. What an implementation of MODEM fixes, and the values the spec leaves open. The depths of the three
RAMs and the choice of SINE are parameters (spec 00_scope R11 to R14); they are plain data, so that a state
carries the parameters it runs under and a claim over all states covers every conforming implementation. A free
value is a constant with no body: nothing can be proved of it that does not hold of every value.
-/

namespace Sys2Proof.Config

/-- Which SINE an implementation has (R14, R186, R187): the reference function, the default, or any other
function that satisfies the six laws of R187. -/
inductive SineChoice where
  | reference
  | lawful
  deriving DecidableEq, Repr

/-- The implementation parameters, with the defaults of R11 to R14. -/
structure Params where
  /-- `TX_DEPTH`: capacity of the TX payload RAM in bytes (R11). -/
  txDepth : Nat := 256
  /-- `RX_DEPTH`: capacity of the RX frame RAM in bytes (R12). -/
  rxDepth : Nat := 256
  /-- `PCM_DEPTH`: capacity of the PCM RAM in 16-bit samples (R13). -/
  pcmDepth : Nat := 262144
  /-- `SINE` (R14). -/
  sine : SineChoice := .reference
  deriving DecidableEq, Repr

/-- The ranges R11, R12 and R13 give the three depths. -/
def Params.ok (p : Params) : Bool :=
  decide (1 ≤ p.txDepth) && decide (p.txDepth ≤ 4096) &&
  decide (1 ≤ p.rxDepth) && decide (p.rxDepth ≤ 4096) &&
  decide (1 ≤ p.pcmDepth) && decide (p.pcmDepth ≤ 524288)

/-- The value an implementation's own SINE takes inside the first quadrant, before it is held to the range law
(R187 law 1). `Machine/Sine.lean` extends it to all phases by the other laws. FREE VALUE: log entry 3. -/
opaque sineRaw : Word → Nat → Int

/-- The contents of a RAM byte after the given power-on reset, at the given offset, until it is written (R103,
R333, U1). FREE VALUE: log entry 1. -/
opaque powerOnByte : Nat → Nat → Byte

/-- The value of a sample that a render computes from a TX byte no write has set (R103, U2). FREE VALUE: log
entry 2. -/
opaque drawnSample : Nat → Half

/-- Whether the platform answers a transaction issued while `rst` is asserted with ERROR (R330, U14). FREE
VALUE: log entry 4. -/
opaque platformError : Nat → Bool

/-- The data word the platform returns for a read issued while `rst` is asserted (R330, U14). FREE VALUE: log
entry 4. -/
opaque platformData : Nat → Word

/-- `FIXTURE_ALPHABET_HZ`: the eight tone frequencies of the source's fixtures, LOW group first (92 D7, U4). OPEN
parameter: log entry 5. -/
opaque fixtureAlphabetHz : Fin 8 → Rat

/-- `FRONT_END`: the spectral front end outside MODEM, from the PCM samples of one analysis window to the eight
levels of its slot (92 D38, U5). OPEN parameter: log entry 5. -/
opaque frontEnd : List Half → Fin 8 → Half

end Sys2Proof.Config
end

