-- ==== Sys2Proof/Syntax.lean ====
section
/-!
DEFINITION. MODEM's transactions and internal operations, one constructor of `Instr` for each row of the opcode
map (spec 30_encoding section 4, R120 to R130). MODEM fetches no instruction words: its "instructions" are the bus
transactions a master issues and the operations they start (00_scope R2). A named register needs no address
operand; an indexed register keeps its index (address bits [4:2], R123); a RAM window, a reserved offset and an
illegal access keep the address bits the row leaves free; a write keeps the data bits its width carries (R121).
-/

namespace Sys2Proof

/-- The six transaction formats: a read or a write of 1, 2 or 4 bytes (R120). -/
inductive Format where
  | rd8 | rd16 | rd32 | wr8 | wr16 | wr32
  deriving DecidableEq, Repr

/-- A bus transaction (R120): its format, the byte address offset TW[63:32] and the write data TW[31:0]. -/
structure Txn where
  fmt : Format
  addr : Word
  data : Word
  deriving DecidableEq, Repr

/-- The 64-bit transaction word TW of R120. -/
def Txn.tw (t : Txn) : BitVec 64 := t.addr ++ t.data

/-- `Result`, the value DET passes to ACC for each slot (R19). -/
inductive SlotResult where
  | sym (n : Nibble)
  | noMatch
  deriving DecidableEq, Repr

/-- The 107 rows of the opcode map, in the table's order. -/
inductive Instr where
  -- identification, reset and interrupt registers (R150, R152, R154 to R156)
  | rdId
  | wrId (d : Word)
  | rdCtrl
  | srst (d : Word)
  | wrCtrlNop (d : Word)
  | rdIrqStatus
  | wrIrqStatus (d : Word)
  | rdIrqEnable
  | wrIrqEnable (d : Word)
  | rdTxDepthR
  | wrTxDepthR (d : Word)
  | rdRxDepthR
  | wrRxDepthR (d : Word)
  | rdPcmDepthR
  | wrPcmDepthR (d : Word)
  -- encoder registers (R150, R152, R157, R159, R178)
  | rdEncCtrl
  | encStart (d : Word)
  | wrEncCtrl (d : Word)
  | rdEncStatus
  | wrEncStatus (d : Word)
  | rdEncSpw
  | wrEncSpw (d : Word)
  | rdEncAmp
  | wrEncAmp (d : Word)
  | rdEncStartOff
  | wrEncStartOff (d : Word)
  | rdEncLen
  | wrEncLen (d : Word)
  | rdEncNsamp
  | wrEncNsamp (d : Word)
  | rdEncPos
  | wrEncPos (d : Word)
  | rdEncInc (k : Fin 8)
  | wrEncInc (k : Fin 8) (d : Word)
  -- detector registers (R150 to R152, R222)
  | rdDetPush
  | detPush (d : Word)
  | wrDetPushNop (d : Word)
  | rdDetThresh
  | wrDetThresh (d : Word)
  | rdDetFloor
  | wrDetFloor (d : Word)
  | rdDetResult
  | wrDetResult (d : Word)
  | rdDetDom
  | wrDetDom (d : Word)
  | rdDetSlots
  | wrDetSlots (d : Word)
  | rdDetLevel (i : Fin 8)
  | wrDetLevel (i : Fin 8) (d : Word)
  | rdDetOffset (i : Fin 8)
  | wrDetOffset (i : Fin 8) (d : Word)
  -- accumulator registers (R150 to R152, R158, R268 to R270)
  | rdRxCtrl
  | rxFlush (d : Word)
  | rxAck (d : Word)
  | rxAckFlush (d : Word)
  | wrRxCtrlNop (d : Word)
  | rdRxCfg
  | wrRxCfg (d : Word)
  | rdRxStatus
  | wrRxStatus (d : Word)
  | rdRxCount
  | wrRxCount (d : Word)
  | rdRxFrameLen
  | wrRxFrameLen (d : Word)
  | rdRxDebug
  | wrRxDebug (d : Word)
  | rdRxRuncnt
  | wrRxRuncnt (d : Word)
  -- misaligned and narrow register accesses (R164); `r` is the register index a[9:2], `a` the offset a[9:0]
  | busErrMisalignedRd32At1 (r : BitVec 8)
  | busErrMisalignedWr32At1 (r : BitVec 8) (d : Word)
  | busErrMisalignedRd32At2 (r : BitVec 8)
  | busErrMisalignedWr32At2 (r : BitVec 8) (d : Word)
  | busErrMisalignedRd32At3 (r : BitVec 8)
  | busErrMisalignedWr32At3 (r : BitVec 8) (d : Word)
  | busErrNarrowRd8 (a : BitVec 10)
  | busErrNarrowRd16 (a : BitVec 10)
  | busErrNarrowWr8 (a : BitVec 10) (d : Byte)
  | busErrNarrowWr16 (a : BitVec 10) (d : Half)
  -- reserved register offsets (R153)
  | rdRsvd (r : BitVec 8)
  | wrRsvd (r : BitVec 8) (d : Word)
  -- the RAM windows (R160 to R163); `i` is the offset inside the window
  | rdTx8 (i : BitVec 12)
  | wrTx8 (i : BitVec 12) (d : Byte)
  | rdRx8 (i : BitVec 12)
  | wrRx8 (i : BitVec 12) (d : Byte)
  | rdPcm8 (i : BitVec 20)
  | wrPcm8 (i : BitVec 20) (d : Byte)
  | rdTx16 (i : BitVec 12)
  | wrTx16 (i : BitVec 12) (d : Half)
  | rdRx16 (i : BitVec 12)
  | wrRx16 (i : BitVec 12) (d : Half)
  | rdPcm16 (i : BitVec 20)
  | wrPcm16 (i : BitVec 20) (d : Half)
  | rdTx32 (i : BitVec 12)
  | wrTx32 (i : BitVec 12) (d : Word)
  | rdRx32 (i : BitVec 12)
  | wrRx32 (i : BitVec 12) (d : Word)
  | rdPcm32 (i : BitVec 20)
  | wrPcm32 (i : BitVec 20) (d : Word)
  -- offsets in no region (R164)
  | busErrUnmappedRd8 (a : Word)
  | busErrUnmappedRd16 (a : Word)
  | busErrUnmappedRd32 (a : Word)
  | busErrUnmappedWr8 (a : Word) (d : Byte)
  | busErrUnmappedWr16 (a : Word) (d : Half)
  | busErrUnmappedWr32 (a : Word) (d : Word)
  -- internal operations, with no bus encoding (R129)
  | engineStep
  | accStep (r : SlotResult)
  | frameClose
  deriving DecidableEq, Repr

end Sys2Proof
end

