-- ==== Sys2Proof/Machine/State.lean ====
section
/-!
DEFINITION. The state of MODEM: every register and internal state element of spec 10_state.md (R30 to R70), block
by block; the three RAMs (R67); the reset input (R330); and what the model itself needs, the parameters it runs
under, the schedule of events still to come (R104, R105) and the reply the last transaction got (R91). All of it is
plain data.
-/

namespace Sys2Proof.Machine

open Sys2Proof.Config

/-- Why the machine stops with a fault. -/
inductive Fault where
  /-- Raised by ENGINE_STEP when the sample it is to write lies beyond PCM_DEPTH, an address the spec says does not
  exist. R177 keeps every render in range, so no run reaches it (`State.Inv`). Safe: the machine stops and claims
  nothing. Log entry 7. -/
  | engineOutsidePcm
  deriving DecidableEq, Repr

/-- Why the model gives an instruction no meaning. -/
inductive Refusal where
  /-- Raised by `exec` for an instruction of the opcode table that has no meaning yet. Safe: the machine stops. No
  arm of this model answers with it. -/
  | notModelled (mnemonic : String)
  deriving DecidableEq, Repr

/-- CFG_CAUSE, the cause code of the most recent configuration rejection (R39, R171). Codes 4 to 7 are never
produced (U17), so they have no constructor. -/
inductive CfgCause where
  | none
  | spwZero
  | lenTooLong
  | incNotDistinct
  deriving DecidableEq, Repr

/-- ENC's state, exactly the list of R65. -/
structure Enc where
  /-- ENC_CTRL.CRC_EN (R38). -/
  crcEn : Bool
  /-- ENC_STATUS.BUSY (R39). -/
  busy : Bool
  /-- ENC_STATUS.ERR_CFG (R39). -/
  errCfg : Bool
  /-- ENC_STATUS.ERR_BUF (R39). -/
  errBuf : Bool
  /-- ENC_STATUS.WERR (R39). -/
  werr : Bool
  /-- ENC_STATUS.CFG_CAUSE (R39). -/
  cfgCause : CfgCause
  /-- ENC_SPW.SPW, samples per word (R40). -/
  spw : BitVec 24
  /-- ENC_AMP.AMP, the peak amplitude (R41). -/
  amp : Half
  /-- ENC_START_OFF.START_OFF (R42). -/
  startOff : Word
  /-- ENC_LEN.LEN, the number of payload bytes (R43). -/
  len : Half
  /-- ENC_POS, the number of samples written (R45). -/
  pos : Word
  /-- ENC_INC0..7, the phase increments of the eight tones (R46). -/
  inc : Bank Word
  deriving DecidableEq, Repr

/-- DET's state, exactly the list of R66. -/
structure Det where
  /-- DET_THRESH.THRESH, u16 (R48). -/
  thresh : Half
  /-- DET_FLOOR.FLOOR, the 16-bit pattern of an s16 (R49). -/
  floor : Half
  /-- DET_RESULT.CAND (R50). -/
  cand : Nibble
  /-- DET_RESULT.MATCH (R50). -/
  matched : Bool
  /-- DET_RESULT.MATCH_L (R50). -/
  matchL : Bool
  /-- DET_RESULT.MATCH_H (R50). -/
  matchH : Bool
  /-- DET_DOM.DOM_L, u16 (R51). -/
  domL : Half
  /-- DET_DOM.DOM_H, u16 (R51). -/
  domH : Half
  /-- DET_SLOTS (R52). -/
  slots : Word
  /-- DET_LEVEL0..7, each the 16-bit pattern of an s16 (R53). -/
  level : Bank Half
  /-- DET_OFFSET0..7, each the 16-bit pattern of an s16 (R54). -/
  offset : Bank Half
  deriving DecidableEq, Repr

/-- RX_CFG.MODE: the run-length debounce, or the source's literal change rule (R56, R244, R245). -/
inductive Debounce where
  | run
  | change
  deriving DecidableEq, Repr

/-- ACC's state: the RX_CFG fields (R56) and the internal state of R64. -/
structure Acc where
  /-- RX_CFG.CRC_EN. -/
  crcEn : Bool
  /-- RX_CFG.MODE. -/
  mode : Debounce
  /-- RX_CFG.S, slots per word; never 0. -/
  slotsPerWord : Byte
  /-- RX_CFG.GAP_SLOTS. -/
  gapSlots : Half
  /-- `run_valid`. -/
  runValid : Bool
  /-- `run_nib`. -/
  runNib : Nibble
  /-- `run_cnt`. -/
  runCnt : Half
  /-- `last_valid`. -/
  lastValid : Bool
  /-- `last_nib`. -/
  lastNib : Nibble
  /-- `gap_cnt`. -/
  gapCnt : Half
  /-- `nib_phase`. -/
  nibPhase : Bool
  /-- `hi`, the held high nibble. -/
  hi : Nibble
  /-- `frame_active`. -/
  frameActive : Bool
  /-- `crc`, the running CRC-8. -/
  crc : Byte
  /-- `count`. -/
  count : BitVec 13
  /-- `frame_valid`. -/
  frameValid : Bool
  /-- `crc_ok`. -/
  crcOk : Bool
  /-- `ovf`. -/
  ovf : Bool
  /-- `lost`. -/
  lost : Bool
  /-- `frame_len`. -/
  frameLen : BitVec 13
  deriving DecidableEq, Repr

/-- The response that ends a transaction (R91). -/
inductive Response where
  | okay
  | error
  deriving DecidableEq, Repr

/-- What the master of the last transaction saw (R91): a write gets a response, a read a response and a data word. -/
inductive Reply where
  /-- No transaction has been answered yet. -/
  | none
  | write (rsp : Response)
  | read (rsp : Response) (data : Word)
  deriving DecidableEq, Repr

/-- One event of the single global order (R104, R105): a bus transaction of a master, a turn of the encoder
engine, or a change of the reset input `rst` (R330). -/
inductive Event where
  | bus (t : Txn)
  | engineTurn
  | assertReset
  | releaseReset
  deriving DecidableEq, Repr

/-- The contents of the three RAMs, keyed by bus offset (R92): the bytes some write has set since power-on, in
strictly rising order of address. A byte not listed has never been written, so it reads as the unconstrained draw of
R103 and equals no listed byte's value by definition. -/
abbrev Memory := List Host.Cell

/-- MODEM. -/
structure State where
  /-- IRQ_STATUS[4:0] (R33). -/
  irqStatus : BitVec 5
  /-- IRQ_ENABLE[4:0] (R34). -/
  irqEnable : BitVec 5
  /-- The tone encoder. -/
  enc : Enc
  /-- The symbol detector. -/
  det : Det
  /-- The symbol accumulator. -/
  acc : Acc
  /-- TX RAM, RX RAM and PCM RAM (R67). -/
  mem : Memory
  /-- The reset input `rst`: asserted or not (R330). -/
  rst : Bool
  /-- The implementation parameters (R11 to R14), which no step changes. The model's own field. -/
  params : Params
  /-- The reply to the last transaction (R91). The model's own field. -/
  reply : Reply
  /-- The events still to come, the next one first (R104). The model's own field. -/
  schedule : List Event
  /-- How many power-on resets there have been after the first; it selects the unspecified RAM contents (R333). The
  model's own field. -/
  powerCycles : Nat
  /-- How many free values have been drawn (R103, R330). The model's own field. -/
  draws : Nat
  deriving DecidableEq, Repr

/-- What a step answers. -/
abbrev StepResult := Host.Outcome State Fault Refusal

/-- ENC's reset values (R332). -/
def Enc.reset : Enc :=
  { crcEn := true, busy := false, errCfg := false, errBuf := false, werr := false, cfgCause := .none
    spw := 0, amp := 0, startOff := 0, len := 0, pos := 0, inc := Bank.fill 0 }

/-- DET's reset values (R332): THRESH 300, FLOOR 0x8000, all else 0. -/
def Det.reset : Det :=
  { thresh := 300, floor := 0x8000, cand := 0, matched := false, matchL := false, matchH := false
    domL := 0, domH := 0, slots := 0, level := Bank.fill 0, offset := Bank.fill 0 }

/-- ACC's reset values (R332): RX_CFG 0x0000_0101, all internal state 0. -/
def Acc.reset : Acc :=
  { crcEn := true, mode := .run, slotsPerWord := 1, gapSlots := 0
    runValid := false, runNib := 0, runCnt := 0, lastValid := false, lastNib := 0, gapCnt := 0
    nibPhase := false, hi := 0, frameActive := false, crc := 0, count := 0
    frameValid := false, crcOk := false, ovf := false, lost := false, frameLen := 0 }

/-- The machine right after a power-on reset (R330, R332), with the default parameters of R11 to R14: nothing in
any RAM has been written, no transaction has been answered and none is scheduled. -/
def State.reset : State :=
  { irqStatus := 0, irqEnable := 0, enc := .reset, det := .reset, acc := .reset, mem := [], rst := false
    params := { }, reply := .none, schedule := [], powerCycles := 0, draws := 0 }

end Sys2Proof.Machine
end

