-- ==== Sys2Proof/Machine/Ops.lean ====
section
/-!
DEFINITION. The named operations over memory and registers: the banks of eight registers, the sparse RAM contents,
byte and multi-byte accesses (spec 20_memory R97), the replies of R91, the bus error (60_exceptions R292), which is
the one exception MODEM has and which it leaves no state behind to return from (R303, R304), the interrupt flags
(10_state R33) and the two resets (70_reset_and_hazards R330 to R333).
-/

namespace Sys2Proof

/-- Register `i` of a bank. -/
def Bank.get {α : Type} (b : Bank α) (i : Fin 8) : α :=
  match i.val with
  | 0 => b.b0
  | 1 => b.b1
  | 2 => b.b2
  | 3 => b.b3
  | 4 => b.b4
  | 5 => b.b5
  | 6 => b.b6
  | _ => b.b7

/-- The bank with register `i` set to `x`. -/
def Bank.set {α : Type} (b : Bank α) (i : Fin 8) (x : α) : Bank α :=
  match i.val with
  | 0 => { b with b0 := x }
  | 1 => { b with b1 := x }
  | 2 => { b with b2 := x }
  | 3 => { b with b3 := x }
  | 4 => { b with b4 := x }
  | 5 => { b with b5 := x }
  | 6 => { b with b6 := x }
  | _ => { b with b7 := x }

/-- The registers of a bank in order. -/
def Bank.toList {α : Type} (b : Bank α) : List α := [b.b0, b.b1, b.b2, b.b3, b.b4, b.b5, b.b6, b.b7]

namespace Machine

open Sys2Proof.Config

/-! ### Memory -/

/-- The canonical form: addresses strictly rising. An entry is a byte some write has set; an unlisted byte has no
value, so no entry can equal what an unlisted address reads as. -/
def Memory.wf : Memory → Bool
  | [] => true
  | [_] => true
  | x :: y :: rest => decide (x.1 < y.1) && Memory.wf (y :: rest)

/-- The byte a write has set at an address, `none` if no write has since power-on. -/
def Memory.lookup : Memory → Nat → Option Byte
  | [], _ => none
  | (k, v) :: rest, a => if a = k then some v else if a < k then none else Memory.lookup rest a

/-- Set the byte at an address, keeping the canonical form. -/
def Memory.write : Memory → Nat → Byte → Memory
  | [], a, b => [(a, b)]
  | (k, v) :: rest, a, b =>
    if a = k then (a, b) :: rest
    else if a < k then (a, b) :: (k, v) :: rest
    else (k, v) :: Memory.write rest a b

/-- Set `n` bytes from an address on, byte k of the value at address a + k (R97). -/
def Memory.writeLE (m : Memory) (a : Nat) (v : Word) : Nat → Memory
  | 0 => m
  | n + 1 => Memory.writeLE (m.write a (v.setWidth 8)) (a + 1) (v >>> 8) n

/-- The byte at a RAM offset: what the most recent write left (R104), or the power-on contents (R103). -/
def State.readByte (s : State) (a : Nat) : Byte :=
  match s.mem.lookup a with
  | some b => b
  | none => powerOnByte s.powerCycles a

/-- The value of `n` bytes from a RAM offset on, byte k of the value at address a + k, the upper bits 0 (R97,
R121). -/
def State.readLE (s : State) (a : Nat) : Nat → Word
  | 0 => 0
  | n + 1 => (s.readByte a).setWidth 32 ||| (s.readLE (a + 1) n <<< 8)

/-! ### One named update per field -/

def State.setIrqStatus (s : State) (v : BitVec 5) : State := { s with irqStatus := v }
def State.setIrqEnable (s : State) (v : BitVec 5) : State := { s with irqEnable := v }
def State.setEnc (s : State) (e : Enc) : State := { s with enc := e }
def State.setDet (s : State) (d : Det) : State := { s with det := d }
def State.setAcc (s : State) (a : Acc) : State := { s with acc := a }
def State.setMem (s : State) (m : Memory) : State := { s with mem := m }
def State.setRst (s : State) (r : Bool) : State := { s with rst := r }
def State.setReply (s : State) (r : Reply) : State := { s with reply := r }
def State.setSchedule (s : State) (es : List Event) : State := { s with schedule := es }
def State.setPowerCycles (s : State) (n : Nat) : State := { s with powerCycles := n }
def State.setDraws (s : State) (n : Nat) : State := { s with draws := n }

/-! ### Replies and the bus error -/

/-- An OKAY response to a read, with its data word (R91). -/
def State.replyData (s : State) (d : Word) : State := s.setReply (.read .okay d)

/-- An OKAY response to a write (R91). -/
def State.replyOkay (s : State) : State := s.setReply (.write .okay)

/-- Whether a transaction reads or writes. -/
inductive Direction where
  | read
  | write
  deriving DecidableEq, Repr

/-- `raise BusError` (R18, R292): the transaction gets the ERROR response, with read data 0, and no other state
changes. MODEM records nothing and transfers no control (R303). -/
def State.raiseBusError (s : State) (dir : Direction) : State :=
  match dir with
  | .read => s.setReply (.read .error 0)
  | .write => s.setReply (.write .error)

/-! ### Interrupt flags -/

/-- The five interrupt sources (R33, R299). -/
inductive IrqSource where
  | encDone
  | encErr
  | rxSym
  | rxFrame
  | rxLost
  deriving DecidableEq, Repr

/-- The bit of IRQ_STATUS a source sets (R33). -/
def IrqSource.bit : IrqSource → Nat
  | .encDone => 0
  | .encErr => 1
  | .rxSym => 2
  | .rxFrame => 3
  | .rxLost => 4

/-- `irq_set(bit)` (R18): OR 1 into the source's bit of IRQ_STATUS. -/
def State.irqSet (s : State) (i : IrqSource) : State :=
  s.setIrqStatus (s.irqStatus ||| (1#5 <<< i.bit))

/-! ### The write lock -/

/-- A host write to a locked encoder resource (R340): while BUSY the write is ignored and sets WERR, otherwise it
takes effect. The response is OKAY either way (R297). -/
def State.lockedWrite (s : State) (effect : State → State) : State :=
  if s.enc.busy then (s.setEnc { s.enc with werr := true }).replyOkay else (effect s).replyOkay

/-! ### Reset -/

/-- Every register and every internal state element at its reset value (R332). The RAMs are not registers. -/
def State.resetRegisters (s : State) : State :=
  ((((s.setIrqStatus 0).setIrqEnable 0).setEnc .reset).setDet .reset).setAcc .reset

/-- `SoftReset()` (R331): the registers reset, the three RAMs keep their contents. -/
def State.softReset (s : State) : State := s.resetRegisters

/-- The deassertion of `rst` (R330, R333): the registers reset, the RAM contents unspecified again. -/
def State.powerOnReset (s : State) : State :=
  ((s.resetRegisters.setMem []).setPowerCycles (s.powerCycles + 1)).setRst false

/-- A transaction issued while `rst` is asserted (R330): MODEM ignores it, and the reply is the platform's, a free
value. Log entry 4. -/
def State.platformReply (s : State) (f : Format) : State :=
  let rsp : Response := if platformError s.draws then .error else .okay
  let reply : Reply :=
    match f with
    | .rd8 | .rd16 | .rd32 => .read rsp (platformData s.draws)
    | .wr8 | .wr16 | .wr32 => .write rsp
  (s.setReply reply).setDraws (s.draws + 1)

end Machine

end Sys2Proof
end

