-- ==== Sys2Proof/Machine/Operands.lean ====
section
/-!
DEFINITION. The operand forms: the fields a register write takes from the data word (spec 30_encoding R123, with
the legalisations of 10_state R41 and R56), the signed reading of a level (R62), the split of a byte into symbols
(R130, R175) and of a symbol into tones (R172), the RAM windows with their access widths (20_memory R92 to R99),
and the quantities computed from the encoder's registers (41_encoder R176).
-/

namespace Sys2Proof.Machine

open Sys2Proof.Config

/-! ### Fields of a register write (R123) -/

/-- Data bits [4:0]: the interrupt bits a write names (R33, R34). -/
def irqField (d : Word) : BitVec 5 := d.extractLsb' 0 5

/-- Data bits [15:0]: THRESH, FLOOR, LEVEL, OFFSET and LEN. -/
def halfField (d : Word) : Half := d.extractLsb' 0 16

/-- SPW: data bits [23:0] (R40). -/
def spwField (d : Word) : BitVec 24 := d.extractLsb' 0 24

/-- AMP: data bits [15:0], at most 32767 (R41). -/
def ampField (d : Word) : Half := if 32767 < (halfField d).toNat then 32767 else halfField d

/-- ENC_CTRL.CRC_EN: data bit [1] (R38). -/
def encCrcEnField (d : Word) : Bool := d.getLsbD 1

/-- RX_CFG.CRC_EN: data bit [0] (R56). -/
def rxCrcEnField (d : Word) : Bool := d.getLsbD 0

/-- RX_CFG.MODE: data bit [1] (R56). -/
def modeField (d : Word) : Debounce := if d.getLsbD 1 then .change else .run

/-- RX_CFG.S: data bits [15:8], 0 stored as 1 (R56). -/
def slotsPerWordField (d : Word) : Byte := if d.extractLsb' 8 8 = 0 then 1 else d.extractLsb' 8 8

/-- RX_CFG.GAP_SLOTS: data bits [31:16] (R56). -/
def gapSlotsField (d : Word) : Half := d.extractLsb' 16 16

/-- A 16-bit pattern read as an s16 (R17, R62). -/
def signed16 (h : Half) : Int := h.toInt

/-! ### Symbols -/

/-- `byteToSymbols`: the high nibble, sent first (R130, R175). -/
def highSymbol (b : Byte) : Nibble := b.extractLsb' 4 4

/-- `byteToSymbols`: the low nibble, sent second (R130, R175). -/
def lowSymbol (b : Byte) : Nibble := b.extractLsb' 0 4

/-- `symbolsToByte(hi, lo)`: (hi << 4) | lo (R252). -/
def symbolsToByte (hi lo : Nibble) : Byte := hi ++ lo

/-- The LOW tone of a symbol: tone n[3:2] (R172). -/
def lowTone (n : Nibble) : Fin 8 := Fin.ofNat 8 (n.toNat / 4)

/-- The HIGH tone of a symbol: tone 4 + n[1:0] (R172). -/
def highTone (n : Nibble) : Fin 8 := Fin.ofNat 8 (4 + n.toNat % 4)

/-! ### RAM windows -/

/-- The three RAMs (R67). -/
inductive Ram where
  | tx
  | rx
  | pcm
  deriving DecidableEq, Repr

/-- The offset at which a RAM's window begins (R92). -/
def Ram.base : Ram → Nat
  | .tx => 0x1000
  | .rx => 0x2000
  | .pcm => 0x100000

/-- A RAM's depth in bytes (R96). -/
def Ram.bytes (p : Params) : Ram → Nat
  | .tx => p.txDepth
  | .rx => p.rxDepth
  | .pcm => 2 * p.pcmDepth

/-- An access width (R90). -/
inductive Width where
  | w8
  | w16
  | w32
  deriving DecidableEq, Repr

/-- The number of bytes of a width. -/
def Width.bytes : Width → Nat
  | .w8 => 1
  | .w16 => 2
  | .w32 => 4

/-- Whether an access of width `w` at byte `i` of a RAM is naturally aligned and inside its depth (R96, R99). -/
def ramAccessOk (p : Params) (r : Ram) (w : Width) (i : Nat) : Bool :=
  decide (i % w.bytes = 0) && decide (i + w.bytes ≤ r.bytes p)

/-! ### Quantities computed from the encoder's registers -/

/-- The word count W = 2·(LEN + CRC_EN) of a render (R175). -/
def Enc.wordCount (e : Enc) : Nat := 2 * (e.len.toNat + e.crcEn.toNat)

/-- The signal length NSAMP = SPW·W, exact (R176). -/
def Enc.nsamp (e : Enc) : Nat := e.spw.toNat * e.wordCount

/-- The per-tone amplitude aT = AMP div 2 (R181). -/
def Enc.toneAmp (e : Enc) : Nat := e.amp.toNat / 2

end Sys2Proof.Machine
end

