-- ==== Sys2Proof/Machine/Flags.lean ====
section
/-!
DEFINITION. The word each register reads as, built from its fields at the bit positions of spec 10_state.md, every
other bit 0 (30_encoding R124, 40_host_bus R150), and the interrupt line (10_state R68). The upper piece of each
concatenation stands first, as in the spec's `(a, b)` notation (R16).
-/

namespace Sys2Proof.Machine

open Sys2Proof.Config

/-- One bit. -/
def bit (b : Bool) : BitVec 1 := BitVec.ofBool b

/-- `irq` = OR over b of IRQ_STATUS[b] ∧ IRQ_ENABLE[b] (R68, R300). -/
def State.irq (s : State) : Bool := s.irqStatus &&& s.irqEnable != 0

/-! ### Identification, reset and interrupt registers -/

/-- ID (R31). -/
def idWord : Word := 0x4D4F4445

/-- IRQ_STATUS (R33). -/
def State.irqStatusWord (s : State) : Word := 0#27 ++ s.irqStatus

/-- IRQ_ENABLE (R34). -/
def State.irqEnableWord (s : State) : Word := 0#27 ++ s.irqEnable

/-- TX_DEPTH_R: bits [12:0] read TX_DEPTH (R35). -/
def State.txDepthWord (s : State) : Word := 0#19 ++ BitVec.ofNat 13 s.params.txDepth

/-- RX_DEPTH_R: bits [12:0] read RX_DEPTH (R36). -/
def State.rxDepthWord (s : State) : Word := 0#19 ++ BitVec.ofNat 13 s.params.rxDepth

/-- PCM_DEPTH_R: bits [19:0] read PCM_DEPTH (R37). -/
def State.pcmDepthWord (s : State) : Word := 0#12 ++ BitVec.ofNat 20 s.params.pcmDepth

/-! ### Encoder registers -/

/-- The code of a rejection's cause (R39, R171). -/
def CfgCause.code : CfgCause → BitVec 3
  | .none => 0
  | .spwZero => 1
  | .lenTooLong => 2
  | .incNotDistinct => 3

/-- ENC_CTRL: CRC_EN at bit 1, START reads 0 (R38). -/
def Enc.ctrlWord (e : Enc) : Word := (0#30 ++ bit e.crcEn) ++ 0#1

/-- ENC_STATUS: BUSY, ERR_CFG, ERR_BUF, WERR at bits 0 to 3, CFG_CAUSE at [6:4] (R39). -/
def Enc.statusWord (e : Enc) : Word :=
  ((((0#25 ++ e.cfgCause.code) ++ bit e.werr) ++ bit e.errBuf) ++ bit e.errCfg) ++ bit e.busy

/-- ENC_SPW (R40). -/
def Enc.spwWord (e : Enc) : Word := 0#8 ++ e.spw

/-- ENC_AMP (R41). -/
def Enc.ampWord (e : Enc) : Word := 0#16 ++ e.amp

/-- ENC_LEN (R43). -/
def Enc.lenWord (e : Enc) : Word := 0#16 ++ e.len

/-- ENC_NSAMP: min(NSAMP, 0xFFFF_FFFF), computed at the read (R44). -/
def Enc.nsampWord (e : Enc) : Word := BitVec.ofNat 32 (min e.nsamp 0xFFFFFFFF)

/-! ### Detector registers -/

/-- DET_THRESH (R48). -/
def Det.threshWord (d : Det) : Word := 0#16 ++ d.thresh

/-- DET_FLOOR: the 16-bit pattern, not sign-extended (R49, R124). -/
def Det.floorWord (d : Det) : Word := 0#16 ++ d.floor

/-- DET_RESULT: CAND at [3:0], MATCH, MATCH_L and MATCH_H at bits 8 to 10 (R50). -/
def Det.resultWord (d : Det) : Word :=
  (((0#21 ++ bit d.matchH) ++ bit d.matchL) ++ bit d.matched) ++ (0#4 ++ d.cand)

/-- DET_DOM: DOM_L at [15:0], DOM_H at [31:16] (R51). -/
def Det.domWord (d : Det) : Word := d.domH ++ d.domL

/-- DET_LEVELi: the 16-bit pattern, not sign-extended (R53, R124). -/
def Det.levelWord (d : Det) (i : Fin 8) : Word := 0#16 ++ d.level.get i

/-- DET_OFFSETi: the 16-bit pattern, not sign-extended (R54, R124). -/
def Det.offsetWord (d : Det) (i : Fin 8) : Word := 0#16 ++ d.offset.get i

/-! ### Accumulator registers -/

/-- The bit RX_CFG.MODE holds (R56). -/
def Debounce.isChange : Debounce → Bool
  | .run => false
  | .change => true

/-- RX_CFG: CRC_EN at bit 0, MODE at bit 1, S at [15:8], GAP_SLOTS at [31:16] (R56). -/
def Acc.cfgWord (a : Acc) : Word :=
  (((a.gapSlots ++ a.slotsPerWord) ++ 0#6) ++ bit a.mode.isChange) ++ bit a.crcEn

/-- RX_STATUS: FRAME_VALID, CRC_OK, NIB_PHASE, FRAME_ACTIVE, OVF, LOST at bits 0 to 5. CRC_OK reads 0 whenever
FRAME_VALID is 0 (R57, R150). -/
def Acc.statusWord (a : Acc) : Word :=
  (((((0#26 ++ bit a.lost) ++ bit a.ovf) ++ bit a.frameActive) ++ bit a.nibPhase) ++
    bit (a.frameValid && a.crcOk)) ++ bit a.frameValid

/-- RX_COUNT (R58). -/
def Acc.countWord (a : Acc) : Word := 0#19 ++ a.count

/-- RX_FRAME_LEN: the closed frame's length while FRAME_VALID, 0 otherwise (R59). -/
def Acc.frameLenWord (a : Acc) : Word := if a.frameValid then 0#19 ++ a.frameLen else 0

/-- RX_DEBUG: RUN_NIB [3:0], RUN_VALID [4], LAST_NIB [11:8], LAST_VALID [12], HI_NIB [19:16], CRC [31:24] (R60). -/
def Acc.debugWord (a : Acc) : Word :=
  ((((((a.crc ++ 0#4) ++ a.hi) ++ 0#3) ++ bit a.lastValid) ++ a.lastNib) ++
    (0#3 ++ bit a.runValid)) ++ a.runNib

/-- RX_RUNCNT: RUN_CNT [15:0], GAP_CNT [31:16] (R61). -/
def Acc.runcntWord (a : Acc) : Word := a.gapCnt ++ a.runCnt

end Sys2Proof.Machine
end

