-- ==== Sys2Proof/Machine/BusErrors.lean ====
section
/-!
DEFINITION. The transactions that are always a bus error (spec 40_host_bus R164, 60_exceptions R292): a misaligned
or a narrow access of the register window, and any access of an offset in no region.
-/

namespace Sys2Proof.Machine

/-- A read that always gets the ERROR response (R164). -/
def illegalRead (s : State) : StepResult := .next (s.raiseBusError .read)

/-- A write that always gets the ERROR response (R164). -/
def illegalWrite (s : State) : StepResult := .next (s.raiseBusError .write)

/-- BUSERR_REG_MISALIGNED_RD32_1: misaligned register access (R164). -/
def execBusErrMisalignedRd32At1 (_r : BitVec 8) (s : State) : StepResult := illegalRead s

/-- BUSERR_REG_MISALIGNED_WR32_1: misaligned register access (R164). -/
def execBusErrMisalignedWr32At1 (_r : BitVec 8) (_d : Word) (s : State) : StepResult := illegalWrite s

/-- BUSERR_REG_MISALIGNED_RD32_2: misaligned register access (R164). -/
def execBusErrMisalignedRd32At2 (_r : BitVec 8) (s : State) : StepResult := illegalRead s

/-- BUSERR_REG_MISALIGNED_WR32_2: misaligned register access (R164). -/
def execBusErrMisalignedWr32At2 (_r : BitVec 8) (_d : Word) (s : State) : StepResult := illegalWrite s

/-- BUSERR_REG_MISALIGNED_RD32_3: misaligned register access (R164). -/
def execBusErrMisalignedRd32At3 (_r : BitVec 8) (s : State) : StepResult := illegalRead s

/-- BUSERR_REG_MISALIGNED_WR32_3: misaligned register access (R164). -/
def execBusErrMisalignedWr32At3 (_r : BitVec 8) (_d : Word) (s : State) : StepResult := illegalWrite s

/-- BUSERR_REG_NARROW_RD8: narrow register access (R164). -/
def execBusErrNarrowRd8 (_a : BitVec 10) (s : State) : StepResult := illegalRead s

/-- BUSERR_REG_NARROW_RD16: narrow register access (R164). -/
def execBusErrNarrowRd16 (_a : BitVec 10) (s : State) : StepResult := illegalRead s

/-- BUSERR_REG_NARROW_WR8: narrow register access (R164). -/
def execBusErrNarrowWr8 (_a : BitVec 10) (_d : Byte) (s : State) : StepResult := illegalWrite s

/-- BUSERR_REG_NARROW_WR16: narrow register access (R164). -/
def execBusErrNarrowWr16 (_a : BitVec 10) (_d : Half) (s : State) : StepResult := illegalWrite s

/-- BUSERR_UNMAPPED_RD8: offset in no region (R164). -/
def execBusErrUnmappedRd8 (_a : Word) (s : State) : StepResult := illegalRead s

/-- BUSERR_UNMAPPED_RD16: offset in no region (R164). -/
def execBusErrUnmappedRd16 (_a : Word) (s : State) : StepResult := illegalRead s

/-- BUSERR_UNMAPPED_RD32: offset in no region (R164). -/
def execBusErrUnmappedRd32 (_a : Word) (s : State) : StepResult := illegalRead s

/-- BUSERR_UNMAPPED_WR8: offset in no region (R164). -/
def execBusErrUnmappedWr8 (_a : Word) (_d : Byte) (s : State) : StepResult := illegalWrite s

/-- BUSERR_UNMAPPED_WR16: offset in no region (R164). -/
def execBusErrUnmappedWr16 (_a : Word) (_d : Half) (s : State) : StepResult := illegalWrite s

/-- BUSERR_UNMAPPED_WR32: offset in no region (R164). -/
def execBusErrUnmappedWr32 (_a : Word) (_d : Word) (s : State) : StepResult := illegalWrite s

end Sys2Proof.Machine
end

