-- ==== Sys2Proof/Machine/Crc.lean ====
section
/-!
DEFINITION. The CRC-8 of the frame format (spec 43_accumulator R260): generator 0x07, initial value 0x00, most
significant bit first, no reflection and no final XOR. The encoder's trailer and the accumulator's check use the
one function.
-/

namespace Sys2Proof.Machine

/-- One of the eight shifts of `crc8_step` (R260). -/
def crc8Shift (c : Byte) : Byte := if c.getLsbD 7 then (c <<< 1) ^^^ 0x07 else c <<< 1

/-- `n` shifts. -/
def crc8Shifts : Nat → Byte → Byte
  | 0, c => c
  | n + 1, c => crc8Shifts n (crc8Shift c)

/-- `crc8_step(c, b)` (R260). -/
def crc8Step (c b : Byte) : Byte := crc8Shifts 8 (c ^^^ b)

/-- `crc8(B)`: the fold of `crc8_step` over the bytes in order, from 0x00 (R260). -/
def crc8 (bs : List Byte) : Byte := bs.foldl crc8Step 0

end Sys2Proof.Machine
end

