-- ==== Sys2Proof/Machine/Accumulator.lean ====
section
/-!
DEFINITION. The symbol accumulator, `demod_symbol_accumulator` (spec 43_accumulator.md): the per-slot step with its
two debounce modes (R240 to R249), the byte assembly (R250 to R254), the close of a frame with the integrity check
(R265 to R267), and the RX_CTRL commands (R268 to R270). The steps of ACC_STEP stand in the order of R249.
-/

namespace Sys2Proof.Machine

/-! ### Run and gap tracking -/

/-- Whether a slot's Result equals the current run's (R242). -/
def Acc.sameRun (a : Acc) : SlotResult → Bool
  | .noMatch => !a.runValid
  | .sym x => a.runValid && a.runNib == x

/-- `grew` of R240: false only when the slot extends a run whose counter is saturated. -/
def Acc.runGrew (a : Acc) (r : SlotResult) : Bool := !(a.sameRun r && a.runCnt == 0xFFFF)

/-- Step 1 of R240: run tracking. -/
def Acc.trackRun (a : Acc) (r : SlotResult) : Acc :=
  if a.sameRun r then (if a.runGrew r then { a with runCnt := a.runCnt + 1 } else a)
  else match r with
    | .noMatch => { a with runValid := false, runNib := 0, runCnt := 1 }
    | .sym x => { a with runValid := true, runNib := x, runCnt := 1 }

/-- h = (S + 1) div 2, the run length at which a word first emits (R244). -/
def Acc.half (a : Acc) : Nat := (a.slotsPerWord.toNat + 1) / 2

/-- Step 2 of R240: the emission decision for Sym(x), by R244 in RUN mode (`grew` tells whether the run's counter
moved) and by R245 in CHANGE mode. The run is already tracked. -/
def Acc.emits (a : Acc) (grew : Bool) (x : Nibble) : Bool :=
  match a.mode with
  | .run =>
    grew && decide (a.half ≤ a.runCnt.toNat) && decide ((a.runCnt.toNat - a.half) % a.slotsPerWord.toNat = 0)
  | .change => !a.lastValid || a.lastNib != x

/-- `ggrew` of R240: a NoMatch slot moved the gap counter. -/
def Acc.gapGrew (a : Acc) (r : SlotResult) : Bool := decide (r = .noMatch) && a.gapCnt != 0xFFFF

/-- Step 3 of R240: the gap counter (R248). -/
def Acc.trackGap (a : Acc) (r : SlotResult) : Acc :=
  match r with
  | .noMatch => if a.gapGrew r then { a with gapCnt := a.gapCnt + 1 } else a
  | .sym _ => { a with gapCnt := 0 }

/-! ### Byte assembly -/

/-- `StoreByte(b)` (R252): the byte enters RX RAM and the CRC, or, with RX RAM full, is dropped (R253). -/
def State.storeByte (s : State) (b : Byte) : State :=
  if s.acc.count.toNat < s.params.rxDepth then
    (s.setMem (s.mem.write (Ram.rx.base + s.acc.count.toNat) b)).setAcc
      { s.acc with count := s.acc.count + 1, crc := crc8Step s.acc.crc b }
  else (s.setAcc { s.acc with ovf := true }).irqSet .rxLost

/-- A nibble taken into the frame (R250 after its first line): the high nibble is held, the low one completes a
byte. -/
def State.assembleNibble (s : State) (x : Nibble) : State :=
  if s.acc.nibPhase then
    let t := s.storeByte (symbolsToByte s.acc.hi x)
    t.setAcc { t.acc with nibPhase := false, hi := 0 }
  else s.setAcc { s.acc with hi := x, nibPhase := true }

/-- `Accept(x)` (R250): an emitted nibble enters the frame, or is discarded while a closed frame waits (R251). -/
def State.acceptNibble (s : State) (x : Nibble) : State :=
  if s.acc.frameValid then (s.setAcc { s.acc with lost := true }).irqSet .rxLost
  else ((s.setAcc { s.acc with frameActive := true }).irqSet .rxSym).assembleNibble x

/-- Step 4 of R240: the emission of x (R240, R250). -/
def State.emitNibble (s : State) (x : Nibble) : State :=
  (s.setAcc { s.acc with lastValid := true, lastNib := x }).acceptNibble x

/-! ### Frame close -/

/-- CRC_OK, `isMessageCheck` (R265). -/
def Acc.integrity (a : Acc) : Bool := decide (1 ≤ a.count.toNat) && !a.ovf && (!a.crcEn || a.crc == 0)

/-- The state every close clears (R266): the held nibble, the running CRC and the debounce state. -/
def Acc.clearStream (a : Acc) : Acc :=
  { a with
    nibPhase := false, hi := 0, frameActive := false, crc := 0
    runValid := false, runNib := 0, runCnt := 0
    lastValid := false, lastNib := 0, gapCnt := 0 }

/-- The registers that describe the closed frame (R266). -/
def Acc.closeFrame (a : Acc) : Acc := { a with frameValid := true, frameLen := a.count, crcOk := a.integrity }

/-- `FrameClose()` (R266). -/
def State.frameClose (s : State) : State :=
  if s.acc.frameActive then (s.setAcc s.acc.closeFrame.clearStream).irqSet .rxFrame
  else s.setAcc s.acc.clearStream

/-! ### The per-slot step -/

/-- Steps 4 and 5 of R240 for a Sym slot: the emission, if `emit`. -/
def State.finishSym (s : State) (emit : Bool) (x : Nibble) : State := if emit then s.emitNibble x else s

/-- Step 5 of R240 for a NoMatch slot: the gap close, at the moment gap_cnt reaches GAP_SLOTS (R267). -/
def State.finishNoMatch (s : State) (ggrew : Bool) : State :=
  if ggrew && s.acc.gapSlots != 0 && s.acc.gapCnt == s.acc.gapSlots && s.acc.frameActive then s.frameClose else s

/-- ACC_STEP(r) (R240), the steps in the order of R249. -/
def State.accStep (s : State) (r : SlotResult) : State :=
  let tracked := s.acc.trackRun r
  let t := s.setAcc (tracked.trackGap r)
  match r with
  | .sym x => t.finishSym (tracked.emits (s.acc.runGrew r) x) x
  | .noMatch => t.finishNoMatch (tracked.gapGrew r)

/-- ACC_STEP (R240): an internal operation, so no transaction is answered. -/
def execAccStep (r : SlotResult) (s : State) : StepResult := .next (s.accStep r)

/-- FRAME_CLOSE (R266): an internal operation, so no transaction is answered. -/
def execFrameClose (s : State) : StepResult := .next s.frameClose

/-! ### RX_CTRL -/

/-- The release of a closed frame (R268). -/
def State.ackFrame (s : State) : State :=
  if s.acc.frameValid then
    s.setAcc { s.acc with frameValid := false, crcOk := false, ovf := false, count := 0, frameLen := 0 }
  else s

/-- RX_ACK (R268). -/
def execRxAck (_d : Word) (s : State) : StepResult := .next s.ackFrame.replyOkay

/-- RX_FLUSH (R269). -/
def execRxFlush (_d : Word) (s : State) : StepResult := .next s.frameClose.replyOkay

/-- RX_ACK_FLUSH: ACK first, FLUSH second (R55, R270). -/
def execRxAckFlush (_d : Word) (s : State) : StepResult := .next s.ackFrame.frameClose.replyOkay

/-- WR_RX_CTRL_NOP: a write of RX_CTRL with neither bit set does nothing (R270). -/
def execWrRxCtrlNop (_d : Word) (s : State) : StepResult := .next s.replyOkay

end Sys2Proof.Machine
end

