-- ==== Sys2Proof/Machine/Detector.lean ====
section
/-!
DEFINITION. The symbol detector, `modem_symbol_detector` (spec 42_detector.md): the filter (R213), the dominance of
a group (R215), the pass rule (R217), the candidate (R219) and DET_PUSH (R222).
-/

namespace Sys2Proof.Machine

/-- `sat16` (R17). -/
def sat16 (x : Int) : Int := min 32767 (max (-32768) x)

/-- `filterSpectrum` for band `i`: sat16(LEVEL[i] − OFFSET[i]) (R213). -/
def Det.filtered (d : Det) (i : Fin 8) : Int := sat16 (signed16 (d.level.get i) - signed16 (d.offset.get i))

/-- Four filtered levels: one group of the alphabet. -/
structure Group where
  g0 : Int
  g1 : Int
  g2 : Int
  g3 : Int
  deriving DecidableEq, Repr

/-- The LOW group, bands 0 to 3 (R211). -/
def Det.lowGroup (d : Det) : Group := ⟨d.filtered 0, d.filtered 1, d.filtered 2, d.filtered 3⟩

/-- The HIGH group, bands 4 to 7 (R211). -/
def Det.highGroup (d : Det) : Group := ⟨d.filtered 4, d.filtered 5, d.filtered 6, d.filtered 7⟩

/-- The maximum level of a group. -/
def Group.top (g : Group) : Int := max (max g.g0 g.g1) (max g.g2 g.g3)

/-- `best`: the least index that holds the maximum (R215). -/
def Group.best (g : Group) : Fin 4 :=
  if g.g0 = g.top then 0 else if g.g1 = g.top then 1 else if g.g2 = g.top then 2 else 3

/-- `second`: the maximum of the other three levels (R215). -/
def Group.second (g : Group) : Int :=
  match g.best with
  | 0 => max g.g1 (max g.g2 g.g3)
  | 1 => max g.g0 (max g.g2 g.g3)
  | 2 => max g.g0 (max g.g1 g.g3)
  | 3 => max g.g0 (max g.g1 g.g2)

/-- `dom`: how far the best level exceeds the second (R215). -/
def Group.dom (g : Group) : Int := g.top - g.second

/-- Group pass: dom > THRESH, strictly, and the best level at least FLOOR (R217). -/
def Det.passes (d : Det) (g : Group) : Bool :=
  decide ((d.thresh.toNat : Int) < g.dom) && decide (signed16 d.floor ≤ g.top)

/-- CAND = 4·best_L + best_H (R219). -/
def Det.candidate (d : Det) : Nibble := BitVec.ofNat 4 (4 * d.lowGroup.best.val + d.highGroup.best.val)

/-- The slot's Result: Sym(CAND) when both groups pass, NoMatch otherwise (R219, R223). -/
def Det.result (d : Det) : SlotResult :=
  if d.passes d.lowGroup && d.passes d.highGroup then .sym d.candidate else .noMatch

/-- DET's registers after a slot (R221): the result registers and the slot counter, nothing else. -/
def Det.afterSlot (d : Det) : Det :=
  { d with
    cand := d.candidate
    matched := d.passes d.lowGroup && d.passes d.highGroup
    matchL := d.passes d.lowGroup
    matchH := d.passes d.highGroup
    domL := BitVec.ofInt 16 d.lowGroup.dom
    domH := BitVec.ofInt 16 d.highGroup.dom
    slots := d.slots + 1 }

/-- DET_PUSH with d[0] = 1 (R222): process one slot and hand its Result to ACC in the same transaction. -/
def State.pushSlot (s : State) : State := (s.setDet s.det.afterSlot).accStep s.det.result

/-- DET_PUSH (R222). -/
def execDetPush (_d : Word) (s : State) : StepResult := .next s.pushSlot.replyOkay

/-- WR_DET_PUSH_NOP: a write of DET_PUSH with d[0] = 0 does nothing (R222). -/
def execWrDetPushNop (_d : Word) (s : State) : StepResult := .next s.replyOkay

end Sys2Proof.Machine
end

