-- ==== Sys2Proof/Machine/Sine.lean ====
section
/-!
DEFINITION. SINE (spec 00_scope R14, 41_encoder R186 and R187). Both choices extend their values on the first
quadrant to all phases by the quadrant points and the two symmetries of R187, so every function the model admits
satisfies the six laws, and every function that satisfies them is admitted. The reference function evaluates the
real sine in fixed point, with 96 fraction bits and the Taylor series of sine or cosine on an eighth of the circle,
and then rounds half away from zero; log entry 3 says how close it is to R186's exact sine.
-/

namespace Sys2Proof.Machine

open Sys2Proof.Config

/-- The number 1 in the fixed point of the reference SINE. -/
def sineOne : Nat := 2 ^ 96

/-- π/2 in that fixed point, rounded down. -/
def sineHalfPi : Nat := 0x1921fb54442d18469898cc517

/-- Horner's scheme for 1 − y/c₁·(1 − y/c₂·(…)), in fixed point. -/
def sineHorner (y : Nat) : List Nat → Nat
  | [] => sineOne
  | c :: cs => sineOne - y * sineHorner y cs / (sineOne * c)

/-- The divisors 2·3, 4·5, … of the sine series. -/
def sineDivisors : List Nat :=
  [2 * 3, 4 * 5, 6 * 7, 8 * 9, 10 * 11, 12 * 13, 14 * 15, 16 * 17, 18 * 19, 20 * 21, 22 * 23, 24 * 25, 26 * 27,
    28 * 29]

/-- The divisors 1·2, 3·4, … of the cosine series. -/
def cosineDivisors : List Nat :=
  [1 * 2, 3 * 4, 5 * 6, 7 * 8, 9 * 10, 11 * 12, 13 * 14, 15 * 16, 17 * 18, 19 * 20, 21 * 22, 23 * 24, 25 * 26,
    27 * 28]

/-- The angle of `n` phase units (n/2^32 of a cycle), in radians, in fixed point. -/
def sineAngle (n : Nat) : Nat := sineHalfPi * n / 2 ^ 30

/-- The sine of `n` phase units for n in the first quadrant, in fixed point: by the sine series up to an eighth of
the circle, by the cosine series of the complement beyond. -/
def sineFixed (n : Nat) : Nat :=
  if n ≤ 2 ^ 29 then
    let x := sineAngle n
    x * sineHorner (x * x / sineOne) sineDivisors / sineOne
  else
    let x := sineAngle (2 ^ 30 - n)
    sineHorner (x * x / sineOne) cosineDivisors

/-- The reference value inside the first quadrant: a·sin rounded to the nearest integer, half away from zero
(R186). -/
def referenceQuarter (n a : Nat) : Int := ((2 * a * sineFixed n + sineOne) / (2 * sineOne) : Nat)

/-- An integer held to the range −a to a (R187 law 1). -/
def holdToRange (a : Nat) (v : Int) : Int := max (-(a : Int)) (min (a : Int) v)

/-- The value at phase `n` of the first quadrant, 0 ≤ n ≤ 2^30, the quadrant points exact (R186, R187 law 2). -/
def sineQuarter (c : SineChoice) (n a : Nat) : Int :=
  if n = 0 then 0
  else if n = 2 ^ 30 then a
  else match c with
    | .reference => referenceQuarter n a
    | .lawful => holdToRange a (sineRaw (BitVec.ofNat 32 n) a)

/-- SINE(p, a) (R14): the first quadrant extended by half-wave and odd symmetry (R187 laws 3 and 4). -/
def sine (c : SineChoice) (p : Word) (a : Nat) : Int :=
  let n := p.toNat
  if n ≤ 2 ^ 30 then sineQuarter c n a
  else if n ≤ 2 ^ 31 then sineQuarter c (2 ^ 31 - n) a
  else if n ≤ 3 * 2 ^ 30 then -sineQuarter c (n - 2 ^ 31) a
  else -sineQuarter c (2 ^ 32 - n) a

end Sys2Proof.Machine
end

