-- ==== Sys2Proof/Machine/Encoder.lean ====
section
/-!
DEFINITION. The tone encoder, `modem_tone_encoder` (spec 41_encoder.md): the word sequence of a render (R175), the
sample function (R181), ENC_START (R178) and ENGINE_STEP (R182).
-/

namespace Sys2Proof.Machine

open Sys2Proof.Config

/-- The `n` bytes from an address on, `none` when no write has set one of them since power-on. -/
def Memory.writtenBytes (m : Memory) (a : Nat) : Nat → Option (List Byte)
  | 0 => some []
  | n + 1 =>
    match m.lookup a, Memory.writtenBytes m (a + 1) n with
    | some b, some bs => some (b :: bs)
    | _, _ => none

/-- Byte `k` of the frame F of a render (R175): payload byte TX RAM[k], or the trailer crc8 of the whole payload;
`none` when a byte it is computed from was never written (R103). -/
def State.frameByte (s : State) (k : Nat) : Option Byte :=
  if k < s.enc.len.toNat then s.mem.lookup (Ram.tx.base + k)
  else (s.mem.writtenBytes Ram.tx.base s.enc.len.toNat).map crc8

/-- `sym(w)`, the symbol of word `w`: the high nibble of its byte for an even word, the low nibble for an odd one
(R175). -/
def State.wordSymbol (s : State) (w : Nat) : Option Nibble :=
  (s.frameByte (w / 2)).map fun b => if w % 2 = 0 then highSymbol b else lowSymbol b

/-- The phase of a tone at sample `n` of a word: n·INC mod 2^32, 0 at the first sample (R181). -/
def tonePhase (n : Nat) (inc : Word) : Word := BitVec.ofNat 32 (n * inc.toNat)

/-- The sample of symbol `x` at sample `n` of its word: the sum of the LOW and the HIGH tone (R172, R181). -/
def State.toneSample (s : State) (x : Nibble) (n : Nat) : Int :=
  sine s.params.sine (tonePhase n (s.enc.inc.get (lowTone x))) s.enc.toneAmp +
    sine s.params.sine (tonePhase n (s.enc.inc.get (highTone x))) s.enc.toneAmp

/-- The sample function of R181 at sample `j` of a render, as an s16 pattern; `none` when the word's symbol is
computed from an unwritten TX byte (R103). -/
def State.renderSample (s : State) (j : Nat) : Option Half :=
  (s.wordSymbol (j / s.enc.spw.toNat)).map fun x =>
    BitVec.ofInt 16 (s.toneSample x (j % s.enc.spw.toNat))

/-- Whether the eight INC values are pairwise distinct (R46, R171). -/
def incDistinct (b : Bank Word) : Bool := decide b.toList.Nodup

/-- The configuration check: the first cause of R171 that holds. -/
def cfgCheck (p : Params) (e : Enc) : CfgCause :=
  if e.spw = 0 then .spwZero
  else if p.txDepth < e.len.toNat then .lenTooLong
  else if incDistinct e.inc then .none
  else .incNotDistinct

/-- The buffer check of R177, exact: whether the render's span ends beyond PCM RAM. -/
def bufTooSmall (p : Params) (e : Enc) : Bool := decide (p.pcmDepth < e.startOff.toNat + e.nsamp)

/-- START with the registers `e`, which already hold the CRC_EN of the write (R178 from its third line on): the
checks in order, then the start of the render. -/
def State.startWith (s : State) (e : Enc) : State :=
  match cfgCheck s.params e with
  | .none =>
    if bufTooSmall s.params e then
      (s.setEnc { e with cfgCause := .none, errCfg := false, errBuf := true }).irqSet .encErr
    else if e.nsamp = 0 then
      (s.setEnc { e with cfgCause := .none, errCfg := false, errBuf := false, pos := 0 }).irqSet .encDone
    else
      s.setEnc { e with cfgCause := .none, errCfg := false, errBuf := false, pos := 0, busy := true }
  | cause => (s.setEnc { e with cfgCause := cause, errCfg := true, errBuf := false }).irqSet .encErr

/-- START with the encoder idle (R178 after its first line): CRC_EN is stored first. -/
def State.startRender (s : State) (crcEn : Bool) : State := s.startWith { s.enc with crcEn := crcEn }

/-- ENC_START (R178): ignored with WERR while BUSY, otherwise the START. -/
def execEncStart (d : Word) (s : State) : StepResult :=
  .next (s.lockedWrite fun t => t.startRender (encCrcEnField d))

/-- The PCM RAM address of sample `i` (R95). -/
def pcmAddr (i : Nat) : Nat := Ram.pcm.base + 2 * i

/-- The sample ENGINE_STEP writes at the current ENC_POS: R181's, or a free value when it is computed from an
unwritten TX byte (R103, U2; log entry 2). -/
def State.engineSample (s : State) : Half :=
  match s.renderSample s.enc.pos.toNat with
  | some v => v
  | none => drawnSample s.draws

/-- The draw counter after ENGINE_STEP: advanced when the sample was a free value. -/
def State.drawsAfterSample (s : State) : Nat :=
  match s.renderSample s.enc.pos.toNat with
  | some _ => s.draws
  | none => s.draws + 1

/-- The encoder's registers after ENGINE_STEP: ENC_POS counts the sample, the last one clears BUSY (R182). -/
def Enc.afterSample (e : Enc) : Enc :=
  { e with pos := e.pos + 1, busy := !decide ((e.pos + 1).toNat = e.nsamp) }

/-- ENGINE_STEP (R182): write one sample. It is enabled exactly when BUSY = 1; a turn of an idle engine has no
effect (log entry 8). -/
def execEngineStep (s : State) : StepResult :=
  if s.enc.busy then
    let i := s.enc.startOff.toNat + s.enc.pos.toNat
    if s.params.pcmDepth ≤ i then .fault .engineOutsidePcm
    else
      let t := ((s.setMem (s.mem.writeLE (pcmAddr i) (s.engineSample.setWidth 32) 2)).setDraws
        s.drawsAfterSample).setEnc s.enc.afterSample
      .next (if t.enc.busy then t else t.irqSet .encDone)
  else .next s

end Sys2Proof.Machine
end

