-- ==== Sys2Proof/Machine/RamAccess.lean ====
section
/-!
DEFINITION. The RAM windows: reads of TX, RX and PCM RAM (spec 40_host_bus R160), writes of TX and PCM RAM with
their write lock (R161, R162), and writes of the read-only RX window (R163). The operand `i` is the byte offset
inside the window.
-/

namespace Sys2Proof.Machine

open Sys2Proof.Config

/-- A RAM read of one width: the bus error of a misaligned or too deep access, or the bytes, zero-extended (R160). -/
def ramRead (r : Ram) (w : Width) (i : Nat) (s : State) : StepResult :=
  if ramAccessOk s.params r w i then .next (s.replyData (s.readLE (r.base + i) w.bytes))
  else .next (s.raiseBusError .read)

/-- A RAM write of one width: the bus error comes before the lock, the lock before the write (R161, R162). -/
def ramWrite (r : Ram) (w : Width) (i : Nat) (v : Word) (s : State) : StepResult :=
  if ramAccessOk s.params r w i then
    .next (s.lockedWrite fun t => t.setMem (t.mem.writeLE (r.base + i) v w.bytes))
  else .next (s.raiseBusError .write)

/-- Any write to the RX window (R94, R163). -/
def rxWindowWrite (s : State) : StepResult := .next (s.raiseBusError .write)

/-- RD_TX8 (R160). -/
def execRdTx8 (i : BitVec 12) (s : State) : StepResult := ramRead .tx .w8 i.toNat s

/-- WR_TX8 (R161). -/
def execWrTx8 (i : BitVec 12) (d : Byte) (s : State) : StepResult :=
  ramWrite .tx .w8 i.toNat (d.setWidth 32) s

/-- RD_RX8 (R160). -/
def execRdRx8 (i : BitVec 12) (s : State) : StepResult := ramRead .rx .w8 i.toNat s

/-- WR_RX8 (R163). -/
def execWrRx8 (_i : BitVec 12) (_d : Byte) (s : State) : StepResult := rxWindowWrite s

/-- RD_PCM8 (R160). -/
def execRdPcm8 (i : BitVec 20) (s : State) : StepResult := ramRead .pcm .w8 i.toNat s

/-- WR_PCM8 (R162). -/
def execWrPcm8 (i : BitVec 20) (d : Byte) (s : State) : StepResult :=
  ramWrite .pcm .w8 i.toNat (d.setWidth 32) s

/-- RD_TX16 (R160). -/
def execRdTx16 (i : BitVec 12) (s : State) : StepResult := ramRead .tx .w16 i.toNat s

/-- WR_TX16 (R161). -/
def execWrTx16 (i : BitVec 12) (d : Half) (s : State) : StepResult :=
  ramWrite .tx .w16 i.toNat (d.setWidth 32) s

/-- RD_RX16 (R160). -/
def execRdRx16 (i : BitVec 12) (s : State) : StepResult := ramRead .rx .w16 i.toNat s

/-- WR_RX16 (R163). -/
def execWrRx16 (_i : BitVec 12) (_d : Half) (s : State) : StepResult := rxWindowWrite s

/-- RD_PCM16 (R160). -/
def execRdPcm16 (i : BitVec 20) (s : State) : StepResult := ramRead .pcm .w16 i.toNat s

/-- WR_PCM16 (R162). -/
def execWrPcm16 (i : BitVec 20) (d : Half) (s : State) : StepResult :=
  ramWrite .pcm .w16 i.toNat (d.setWidth 32) s

/-- RD_TX32 (R160). -/
def execRdTx32 (i : BitVec 12) (s : State) : StepResult := ramRead .tx .w32 i.toNat s

/-- WR_TX32 (R161). -/
def execWrTx32 (i : BitVec 12) (d : Word) (s : State) : StepResult :=
  ramWrite .tx .w32 i.toNat d s

/-- RD_RX32 (R160). -/
def execRdRx32 (i : BitVec 12) (s : State) : StepResult := ramRead .rx .w32 i.toNat s

/-- WR_RX32 (R163). -/
def execWrRx32 (_i : BitVec 12) (_d : Word) (s : State) : StepResult := rxWindowWrite s

/-- RD_PCM32 (R160). -/
def execRdPcm32 (i : BitVec 20) (s : State) : StepResult := ramRead .pcm .w32 i.toNat s

/-- WR_PCM32 (R162). -/
def execWrPcm32 (i : BitVec 20) (d : Word) (s : State) : StepResult :=
  ramWrite .pcm .w32 i.toNat d s

end Sys2Proof.Machine
end

