-- ==== Sys2Proof/Machine/RegisterReads.lean ====
section
/-!
DEFINITION. The register reads, RD_<reg> (spec 40_host_bus R150) and RD_RSVD (R153): an OKAY response with the
word the register reads as; no state changes (20_memory R101), and BUSY blocks none of them.
-/

namespace Sys2Proof.Machine

/-- A register read: the response and the data word (R150). -/
def readRegister (w : Word) (s : State) : StepResult := .next (s.replyData w)

/-- RD_ID: ID (R31). -/
def execRdId (s : State) : StepResult := readRegister idWord s

/-- RD_CTRL: CTRL: SRST is W1T and reads 0 (R32). -/
def execRdCtrl (s : State) : StepResult := readRegister 0 s

/-- RD_IRQ_STATUS: IRQ_STATUS (R33). -/
def execRdIrqStatus (s : State) : StepResult := readRegister s.irqStatusWord s

/-- RD_IRQ_ENABLE: IRQ_ENABLE (R34). -/
def execRdIrqEnable (s : State) : StepResult := readRegister s.irqEnableWord s

/-- RD_TX_DEPTH_R: TX_DEPTH_R (R35). -/
def execRdTxDepthR (s : State) : StepResult := readRegister s.txDepthWord s

/-- RD_RX_DEPTH_R: RX_DEPTH_R (R36). -/
def execRdRxDepthR (s : State) : StepResult := readRegister s.rxDepthWord s

/-- RD_PCM_DEPTH_R: PCM_DEPTH_R (R37). -/
def execRdPcmDepthR (s : State) : StepResult := readRegister s.pcmDepthWord s

/-- RD_ENC_CTRL: ENC_CTRL (R38). -/
def execRdEncCtrl (s : State) : StepResult := readRegister s.enc.ctrlWord s

/-- RD_ENC_STATUS: ENC_STATUS (R39). -/
def execRdEncStatus (s : State) : StepResult := readRegister s.enc.statusWord s

/-- RD_ENC_SPW: ENC_SPW (R40). -/
def execRdEncSpw (s : State) : StepResult := readRegister s.enc.spwWord s

/-- RD_ENC_AMP: ENC_AMP (R41). -/
def execRdEncAmp (s : State) : StepResult := readRegister s.enc.ampWord s

/-- RD_ENC_START_OFF: ENC_START_OFF (R42). -/
def execRdEncStartOff (s : State) : StepResult := readRegister s.enc.startOff s

/-- RD_ENC_LEN: ENC_LEN (R43). -/
def execRdEncLen (s : State) : StepResult := readRegister s.enc.lenWord s

/-- RD_ENC_NSAMP: ENC_NSAMP (R44). -/
def execRdEncNsamp (s : State) : StepResult := readRegister s.enc.nsampWord s

/-- RD_ENC_POS: ENC_POS (R45). -/
def execRdEncPos (s : State) : StepResult := readRegister s.enc.pos s

/-- RD_ENC_INC: ENC_INCk (R46). -/
def execRdEncInc (k : Fin 8) (s : State) : StepResult := readRegister (s.enc.inc.get k) s

/-- RD_DET_PUSH: DET_PUSH: PUSH is W1T and reads 0 (R47). -/
def execRdDetPush (s : State) : StepResult := readRegister 0 s

/-- RD_DET_THRESH: DET_THRESH (R48). -/
def execRdDetThresh (s : State) : StepResult := readRegister s.det.threshWord s

/-- RD_DET_FLOOR: DET_FLOOR (R49). -/
def execRdDetFloor (s : State) : StepResult := readRegister s.det.floorWord s

/-- RD_DET_RESULT: DET_RESULT (R50). -/
def execRdDetResult (s : State) : StepResult := readRegister s.det.resultWord s

/-- RD_DET_DOM: DET_DOM (R51). -/
def execRdDetDom (s : State) : StepResult := readRegister s.det.domWord s

/-- RD_DET_SLOTS: DET_SLOTS (R52). -/
def execRdDetSlots (s : State) : StepResult := readRegister s.det.slots s

/-- RD_DET_LEVEL: DET_LEVELi (R53). -/
def execRdDetLevel (i : Fin 8) (s : State) : StepResult := readRegister (s.det.levelWord i) s

/-- RD_DET_OFFSET: DET_OFFSETi (R54). -/
def execRdDetOffset (i : Fin 8) (s : State) : StepResult := readRegister (s.det.offsetWord i) s

/-- RD_RX_CTRL: RX_CTRL: FLUSH and ACK are W1T and read 0 (R55). -/
def execRdRxCtrl (s : State) : StepResult := readRegister 0 s

/-- RD_RX_CFG: RX_CFG (R56). -/
def execRdRxCfg (s : State) : StepResult := readRegister s.acc.cfgWord s

/-- RD_RX_STATUS: RX_STATUS (R57). -/
def execRdRxStatus (s : State) : StepResult := readRegister s.acc.statusWord s

/-- RD_RX_COUNT: RX_COUNT (R58). -/
def execRdRxCount (s : State) : StepResult := readRegister s.acc.countWord s

/-- RD_RX_FRAME_LEN: RX_FRAME_LEN (R59). -/
def execRdRxFrameLen (s : State) : StepResult := readRegister s.acc.frameLenWord s

/-- RD_RX_DEBUG: RX_DEBUG (R60). -/
def execRdRxDebug (s : State) : StepResult := readRegister s.acc.debugWord s

/-- RD_RX_RUNCNT: RX_RUNCNT (R61). -/
def execRdRxRuncnt (s : State) : StepResult := readRegister s.acc.runcntWord s

/-- RD_RSVD: a reserved offset reads 0 (R63, R153). -/
def execRdRsvd (_r : BitVec 8) (s : State) : StepResult := readRegister 0 s

end Sys2Proof.Machine
end

