-- ==== Sys2Proof/Machine/RegisterWrites.lean ====
section
/-!
DEFINITION. The register writes that start no operation of ENC, DET or ACC: the unlocked registers (spec
40_host_bus R151), the read-only registers (R152), the reserved offsets (R153), CTRL with the soft reset (R154), the
interrupt registers (R155, R156), the two status registers with write-1-to-clear bits (R157, R158) and the encoder
configuration with its write lock (R159).
-/

namespace Sys2Proof.Machine

/-- A write that changes nothing but gets its OKAY response (R152, R153). -/
def ignoreWrite (s : State) : StepResult := .next s.replyOkay

/-! ### Read-only registers: a write has no effect and raises no error (R70, R152) -/

/-- WR_ID (R152). -/
def execWrId (_d : Word) (s : State) : StepResult := ignoreWrite s

/-- WR_TX_DEPTH_R (R152). -/
def execWrTxDepthR (_d : Word) (s : State) : StepResult := ignoreWrite s

/-- WR_RX_DEPTH_R (R152). -/
def execWrRxDepthR (_d : Word) (s : State) : StepResult := ignoreWrite s

/-- WR_PCM_DEPTH_R (R152). -/
def execWrPcmDepthR (_d : Word) (s : State) : StepResult := ignoreWrite s

/-- WR_ENC_NSAMP (R152). -/
def execWrEncNsamp (_d : Word) (s : State) : StepResult := ignoreWrite s

/-- WR_ENC_POS (R152). -/
def execWrEncPos (_d : Word) (s : State) : StepResult := ignoreWrite s

/-- WR_DET_RESULT (R152). -/
def execWrDetResult (_d : Word) (s : State) : StepResult := ignoreWrite s

/-- WR_DET_DOM (R152). -/
def execWrDetDom (_d : Word) (s : State) : StepResult := ignoreWrite s

/-- WR_DET_SLOTS (R152). -/
def execWrDetSlots (_d : Word) (s : State) : StepResult := ignoreWrite s

/-- WR_RX_COUNT (R152). -/
def execWrRxCount (_d : Word) (s : State) : StepResult := ignoreWrite s

/-- WR_RX_FRAME_LEN (R152). -/
def execWrRxFrameLen (_d : Word) (s : State) : StepResult := ignoreWrite s

/-- WR_RX_DEBUG (R152). -/
def execWrRxDebug (_d : Word) (s : State) : StepResult := ignoreWrite s

/-- WR_RX_RUNCNT (R152). -/
def execWrRxRuncnt (_d : Word) (s : State) : StepResult := ignoreWrite s

/-- WR_RSVD: a write of a reserved offset is ignored (R63, R153). -/
def execWrRsvd (_r : BitVec 8) (_d : Word) (s : State) : StepResult := ignoreWrite s

/-! ### CTRL -/

/-- SRST: the soft reset, accepted even while BUSY (R154, R331). -/
def execSrst (_d : Word) (s : State) : StepResult := .next s.softReset.replyOkay

/-- WR_CTRL_NOP: a write of CTRL with SRST = 0 does nothing (R154). -/
def execWrCtrlNop (_d : Word) (s : State) : StepResult := ignoreWrite s

/-! ### Interrupt and status registers -/

/-- WR_IRQ_STATUS: write 1 to clear (R155). -/
def execWrIrqStatus (d : Word) (s : State) : StepResult :=
  .next (s.setIrqStatus (s.irqStatus &&& ~~~(irqField d))).replyOkay

/-- WR_IRQ_ENABLE: set the interrupt mask (R156). -/
def execWrIrqEnable (d : Word) (s : State) : StepResult := .next (s.setIrqEnable (irqField d)).replyOkay

/-- WR_ENC_STATUS: d[3] = 1 clears WERR; not locked (R157). -/
def execWrEncStatus (d : Word) (s : State) : StepResult :=
  .next (s.setEnc { s.enc with werr := s.enc.werr && !d.getLsbD 3 }).replyOkay

/-- WR_RX_STATUS: d[5] = 1 clears LOST (R158). -/
def execWrRxStatus (d : Word) (s : State) : StepResult :=
  .next (s.setAcc { s.acc with lost := s.acc.lost && !d.getLsbD 5 }).replyOkay

/-! ### Unlocked RW registers (R151) -/

/-- WR_DET_THRESH (R48, R151). -/
def execWrDetThresh (d : Word) (s : State) : StepResult :=
  .next (s.setDet { s.det with thresh := halfField d }).replyOkay

/-- WR_DET_FLOOR (R49, R151). -/
def execWrDetFloor (d : Word) (s : State) : StepResult :=
  .next (s.setDet { s.det with floor := halfField d }).replyOkay

/-- WR_DET_LEVELi (R53, R151). -/
def execWrDetLevel (i : Fin 8) (d : Word) (s : State) : StepResult :=
  .next (s.setDet { s.det with level := s.det.level.set i (halfField d) }).replyOkay

/-- WR_DET_OFFSETi (R54, R151). -/
def execWrDetOffset (i : Fin 8) (d : Word) (s : State) : StepResult :=
  .next (s.setDet { s.det with offset := s.det.offset.set i (halfField d) }).replyOkay

/-- WR_RX_CFG: the four fields; the run, the gap counter and the frame are kept (R56, R151, R271). -/
def execWrRxCfg (d : Word) (s : State) : StepResult :=
  .next (s.setAcc { s.acc with
    crcEn := rxCrcEnField d
    mode := modeField d
    slotsPerWord := slotsPerWordField d
    gapSlots := gapSlotsField d }).replyOkay

/-! ### Encoder configuration, locked while BUSY (R159, R340) -/

/-- WR_ENC_CTRL with d[0] = 0: CRC_EN alone (R38, R159). -/
def execWrEncCtrl (d : Word) (s : State) : StepResult :=
  .next (s.lockedWrite fun t => t.setEnc { t.enc with crcEn := encCrcEnField d })

/-- WR_ENC_SPW (R40, R159). -/
def execWrEncSpw (d : Word) (s : State) : StepResult :=
  .next (s.lockedWrite fun t => t.setEnc { t.enc with spw := spwField d })

/-- WR_ENC_AMP: at most 32767 is stored (R41, R159). -/
def execWrEncAmp (d : Word) (s : State) : StepResult :=
  .next (s.lockedWrite fun t => t.setEnc { t.enc with amp := ampField d })

/-- WR_ENC_START_OFF (R42, R159). -/
def execWrEncStartOff (d : Word) (s : State) : StepResult :=
  .next (s.lockedWrite fun t => t.setEnc { t.enc with startOff := d })

/-- WR_ENC_LEN (R43, R159). -/
def execWrEncLen (d : Word) (s : State) : StepResult :=
  .next (s.lockedWrite fun t => t.setEnc { t.enc with len := halfField d })

/-- WR_ENC_INCk (R46, R159). -/
def execWrEncInc (k : Fin 8) (d : Word) (s : State) : StepResult :=
  .next (s.lockedWrite fun t => t.setEnc { t.enc with inc := t.enc.inc.set k d })

end Sys2Proof.Machine
end

