-- ==== Sys2Proof/Machine/Dispatch.lean ====
section
/-!
DEFINITION. The meaning of every row of the opcode map, one arm for each constructor of `Instr`.
-/

namespace Sys2Proof.Machine

def exec (i : Instr) (s : State) : Host.Outcome State Fault Refusal :=
  match i with
  | .rdId => Sys2Proof.Machine.execRdId s
  | .wrId d => Sys2Proof.Machine.execWrId d s
  | .rdCtrl => Sys2Proof.Machine.execRdCtrl s
  | .srst d => Sys2Proof.Machine.execSrst d s
  | .wrCtrlNop d => Sys2Proof.Machine.execWrCtrlNop d s
  | .rdIrqStatus => Sys2Proof.Machine.execRdIrqStatus s
  | .wrIrqStatus d => Sys2Proof.Machine.execWrIrqStatus d s
  | .rdIrqEnable => Sys2Proof.Machine.execRdIrqEnable s
  | .wrIrqEnable d => Sys2Proof.Machine.execWrIrqEnable d s
  | .rdTxDepthR => Sys2Proof.Machine.execRdTxDepthR s
  | .wrTxDepthR d => Sys2Proof.Machine.execWrTxDepthR d s
  | .rdRxDepthR => Sys2Proof.Machine.execRdRxDepthR s
  | .wrRxDepthR d => Sys2Proof.Machine.execWrRxDepthR d s
  | .rdPcmDepthR => Sys2Proof.Machine.execRdPcmDepthR s
  | .wrPcmDepthR d => Sys2Proof.Machine.execWrPcmDepthR d s
  | .rdEncCtrl => Sys2Proof.Machine.execRdEncCtrl s
  | .encStart d => Sys2Proof.Machine.execEncStart d s
  | .wrEncCtrl d => Sys2Proof.Machine.execWrEncCtrl d s
  | .rdEncStatus => Sys2Proof.Machine.execRdEncStatus s
  | .wrEncStatus d => Sys2Proof.Machine.execWrEncStatus d s
  | .rdEncSpw => Sys2Proof.Machine.execRdEncSpw s
  | .wrEncSpw d => Sys2Proof.Machine.execWrEncSpw d s
  | .rdEncAmp => Sys2Proof.Machine.execRdEncAmp s
  | .wrEncAmp d => Sys2Proof.Machine.execWrEncAmp d s
  | .rdEncStartOff => Sys2Proof.Machine.execRdEncStartOff s
  | .wrEncStartOff d => Sys2Proof.Machine.execWrEncStartOff d s
  | .rdEncLen => Sys2Proof.Machine.execRdEncLen s
  | .wrEncLen d => Sys2Proof.Machine.execWrEncLen d s
  | .rdEncNsamp => Sys2Proof.Machine.execRdEncNsamp s
  | .wrEncNsamp d => Sys2Proof.Machine.execWrEncNsamp d s
  | .rdEncPos => Sys2Proof.Machine.execRdEncPos s
  | .wrEncPos d => Sys2Proof.Machine.execWrEncPos d s
  | .rdEncInc k => Sys2Proof.Machine.execRdEncInc k s
  | .wrEncInc k d => Sys2Proof.Machine.execWrEncInc k d s
  | .rdDetPush => Sys2Proof.Machine.execRdDetPush s
  | .detPush d => Sys2Proof.Machine.execDetPush d s
  | .wrDetPushNop d => Sys2Proof.Machine.execWrDetPushNop d s
  | .rdDetThresh => Sys2Proof.Machine.execRdDetThresh s
  | .wrDetThresh d => Sys2Proof.Machine.execWrDetThresh d s
  | .rdDetFloor => Sys2Proof.Machine.execRdDetFloor s
  | .wrDetFloor d => Sys2Proof.Machine.execWrDetFloor d s
  | .rdDetResult => Sys2Proof.Machine.execRdDetResult s
  | .wrDetResult d => Sys2Proof.Machine.execWrDetResult d s
  | .rdDetDom => Sys2Proof.Machine.execRdDetDom s
  | .wrDetDom d => Sys2Proof.Machine.execWrDetDom d s
  | .rdDetSlots => Sys2Proof.Machine.execRdDetSlots s
  | .wrDetSlots d => Sys2Proof.Machine.execWrDetSlots d s
  | .rdDetLevel j => Sys2Proof.Machine.execRdDetLevel j s
  | .wrDetLevel j d => Sys2Proof.Machine.execWrDetLevel j d s
  | .rdDetOffset j => Sys2Proof.Machine.execRdDetOffset j s
  | .wrDetOffset j d => Sys2Proof.Machine.execWrDetOffset j d s
  | .rdRxCtrl => Sys2Proof.Machine.execRdRxCtrl s
  | .rxFlush d => Sys2Proof.Machine.execRxFlush d s
  | .rxAck d => Sys2Proof.Machine.execRxAck d s
  | .rxAckFlush d => Sys2Proof.Machine.execRxAckFlush d s
  | .wrRxCtrlNop d => Sys2Proof.Machine.execWrRxCtrlNop d s
  | .rdRxCfg => Sys2Proof.Machine.execRdRxCfg s
  | .wrRxCfg d => Sys2Proof.Machine.execWrRxCfg d s
  | .rdRxStatus => Sys2Proof.Machine.execRdRxStatus s
  | .wrRxStatus d => Sys2Proof.Machine.execWrRxStatus d s
  | .rdRxCount => Sys2Proof.Machine.execRdRxCount s
  | .wrRxCount d => Sys2Proof.Machine.execWrRxCount d s
  | .rdRxFrameLen => Sys2Proof.Machine.execRdRxFrameLen s
  | .wrRxFrameLen d => Sys2Proof.Machine.execWrRxFrameLen d s
  | .rdRxDebug => Sys2Proof.Machine.execRdRxDebug s
  | .wrRxDebug d => Sys2Proof.Machine.execWrRxDebug d s
  | .rdRxRuncnt => Sys2Proof.Machine.execRdRxRuncnt s
  | .wrRxRuncnt d => Sys2Proof.Machine.execWrRxRuncnt d s
  | .busErrMisalignedRd32At1 r => Sys2Proof.Machine.execBusErrMisalignedRd32At1 r s
  | .busErrMisalignedWr32At1 r d => Sys2Proof.Machine.execBusErrMisalignedWr32At1 r d s
  | .busErrMisalignedRd32At2 r => Sys2Proof.Machine.execBusErrMisalignedRd32At2 r s
  | .busErrMisalignedWr32At2 r d => Sys2Proof.Machine.execBusErrMisalignedWr32At2 r d s
  | .busErrMisalignedRd32At3 r => Sys2Proof.Machine.execBusErrMisalignedRd32At3 r s
  | .busErrMisalignedWr32At3 r d => Sys2Proof.Machine.execBusErrMisalignedWr32At3 r d s
  | .busErrNarrowRd8 a => Sys2Proof.Machine.execBusErrNarrowRd8 a s
  | .busErrNarrowRd16 a => Sys2Proof.Machine.execBusErrNarrowRd16 a s
  | .busErrNarrowWr8 a d => Sys2Proof.Machine.execBusErrNarrowWr8 a d s
  | .busErrNarrowWr16 a d => Sys2Proof.Machine.execBusErrNarrowWr16 a d s
  | .rdRsvd r => Sys2Proof.Machine.execRdRsvd r s
  | .wrRsvd r d => Sys2Proof.Machine.execWrRsvd r d s
  | .rdTx8 j => Sys2Proof.Machine.execRdTx8 j s
  | .wrTx8 j d => Sys2Proof.Machine.execWrTx8 j d s
  | .rdRx8 j => Sys2Proof.Machine.execRdRx8 j s
  | .wrRx8 j d => Sys2Proof.Machine.execWrRx8 j d s
  | .rdPcm8 j => Sys2Proof.Machine.execRdPcm8 j s
  | .wrPcm8 j d => Sys2Proof.Machine.execWrPcm8 j d s
  | .rdTx16 j => Sys2Proof.Machine.execRdTx16 j s
  | .wrTx16 j d => Sys2Proof.Machine.execWrTx16 j d s
  | .rdRx16 j => Sys2Proof.Machine.execRdRx16 j s
  | .wrRx16 j d => Sys2Proof.Machine.execWrRx16 j d s
  | .rdPcm16 j => Sys2Proof.Machine.execRdPcm16 j s
  | .wrPcm16 j d => Sys2Proof.Machine.execWrPcm16 j d s
  | .rdTx32 j => Sys2Proof.Machine.execRdTx32 j s
  | .wrTx32 j d => Sys2Proof.Machine.execWrTx32 j d s
  | .rdRx32 j => Sys2Proof.Machine.execRdRx32 j s
  | .wrRx32 j d => Sys2Proof.Machine.execWrRx32 j d s
  | .rdPcm32 j => Sys2Proof.Machine.execRdPcm32 j s
  | .wrPcm32 j d => Sys2Proof.Machine.execWrPcm32 j d s
  | .busErrUnmappedRd8 a => Sys2Proof.Machine.execBusErrUnmappedRd8 a s
  | .busErrUnmappedRd16 a => Sys2Proof.Machine.execBusErrUnmappedRd16 a s
  | .busErrUnmappedRd32 a => Sys2Proof.Machine.execBusErrUnmappedRd32 a s
  | .busErrUnmappedWr8 a d => Sys2Proof.Machine.execBusErrUnmappedWr8 a d s
  | .busErrUnmappedWr16 a d => Sys2Proof.Machine.execBusErrUnmappedWr16 a d s
  | .busErrUnmappedWr32 a d => Sys2Proof.Machine.execBusErrUnmappedWr32 a d s
  | .engineStep => Sys2Proof.Machine.execEngineStep s
  | .accStep r => Sys2Proof.Machine.execAccStep r s
  | .frameClose => Sys2Proof.Machine.execFrameClose s

end Sys2Proof.Machine
end

