-- ==== Sys2Proof/WellFormed.lean ====
section
/-!
DEFINITION. When an instruction is well formed: its operands select its own row of the opcode map and no earlier
one (spec 30_encoding R122, R125). A command carries its selecting data bits, a reserved access names an
unassigned register, an unmapped access lies in no region. Every other operand is free.
-/

namespace Sys2Proof

/-- The four regions of the address space (R92). -/
inductive Region where
  | reg | tx | rx | pcm
  deriving DecidableEq, Repr

/-- The region an offset lies in, `none` for an unmapped offset (R92). -/
def regionOf (a : Word) : Option Region :=
  let n := a.toNat
  if n ≤ 0x3FF then some .reg
  else if 0x1000 ≤ n ∧ n ≤ 0x1FFF then some .tx
  else if 0x2000 ≤ n ∧ n ≤ 0x2FFF then some .rx
  else if 0x100000 ≤ n ∧ n ≤ 0x1FFFFF then some .pcm
  else none

/-- Whether 10_state.md assigns a register at offset 4·r; the other offsets of the register window are reserved
(R63, R153). -/
def registerAssigned (r : BitVec 8) : Bool :=
  let a := 4 * r.toNat
  decide (a ≤ 0x018) || (decide (0x100 ≤ a) && decide (a ≤ 0x13C)) ||
  (decide (0x200 ≤ a) && decide (a ≤ 0x214)) || (decide (0x220 ≤ a) && decide (a ≤ 0x25C)) ||
  (decide (0x300 ≤ a) && decide (a ≤ 0x318))

/-- The operands of `i` select the row of the opcode map that `i` stands for (R122, R125, R153, R164). -/
def Instr.wellFormed : Instr → Bool
  | .rdId => true
  | .wrId _ => true
  | .rdCtrl => true
  | .srst d => d.getLsbD 0
  | .wrCtrlNop d => !d.getLsbD 0
  | .rdIrqStatus => true
  | .wrIrqStatus _ => true
  | .rdIrqEnable => true
  | .wrIrqEnable _ => true
  | .rdTxDepthR => true
  | .wrTxDepthR _ => true
  | .rdRxDepthR => true
  | .wrRxDepthR _ => true
  | .rdPcmDepthR => true
  | .wrPcmDepthR _ => true
  | .rdEncCtrl => true
  | .encStart d => d.getLsbD 0
  | .wrEncCtrl d => !d.getLsbD 0
  | .rdEncStatus => true
  | .wrEncStatus _ => true
  | .rdEncSpw => true
  | .wrEncSpw _ => true
  | .rdEncAmp => true
  | .wrEncAmp _ => true
  | .rdEncStartOff => true
  | .wrEncStartOff _ => true
  | .rdEncLen => true
  | .wrEncLen _ => true
  | .rdEncNsamp => true
  | .wrEncNsamp _ => true
  | .rdEncPos => true
  | .wrEncPos _ => true
  | .rdEncInc _ => true
  | .wrEncInc _ _ => true
  | .rdDetPush => true
  | .detPush d => d.getLsbD 0
  | .wrDetPushNop d => !d.getLsbD 0
  | .rdDetThresh => true
  | .wrDetThresh _ => true
  | .rdDetFloor => true
  | .wrDetFloor _ => true
  | .rdDetResult => true
  | .wrDetResult _ => true
  | .rdDetDom => true
  | .wrDetDom _ => true
  | .rdDetSlots => true
  | .wrDetSlots _ => true
  | .rdDetLevel _ => true
  | .wrDetLevel _ _ => true
  | .rdDetOffset _ => true
  | .wrDetOffset _ _ => true
  | .rdRxCtrl => true
  | .rxFlush d => d.getLsbD 0 && !d.getLsbD 1
  | .rxAck d => !d.getLsbD 0 && d.getLsbD 1
  | .rxAckFlush d => d.getLsbD 0 && d.getLsbD 1
  | .wrRxCtrlNop d => !d.getLsbD 0 && !d.getLsbD 1
  | .rdRxCfg => true
  | .wrRxCfg _ => true
  | .rdRxStatus => true
  | .wrRxStatus _ => true
  | .rdRxCount => true
  | .wrRxCount _ => true
  | .rdRxFrameLen => true
  | .wrRxFrameLen _ => true
  | .rdRxDebug => true
  | .wrRxDebug _ => true
  | .rdRxRuncnt => true
  | .wrRxRuncnt _ => true
  | .busErrMisalignedRd32At1 _ => true
  | .busErrMisalignedWr32At1 _ _ => true
  | .busErrMisalignedRd32At2 _ => true
  | .busErrMisalignedWr32At2 _ _ => true
  | .busErrMisalignedRd32At3 _ => true
  | .busErrMisalignedWr32At3 _ _ => true
  | .busErrNarrowRd8 _ => true
  | .busErrNarrowRd16 _ => true
  | .busErrNarrowWr8 _ _ => true
  | .busErrNarrowWr16 _ _ => true
  | .rdRsvd r => !registerAssigned r
  | .wrRsvd r _ => !registerAssigned r
  | .rdTx8 _ => true
  | .wrTx8 _ _ => true
  | .rdRx8 _ => true
  | .wrRx8 _ _ => true
  | .rdPcm8 _ => true
  | .wrPcm8 _ _ => true
  | .rdTx16 _ => true
  | .wrTx16 _ _ => true
  | .rdRx16 _ => true
  | .wrRx16 _ _ => true
  | .rdPcm16 _ => true
  | .wrPcm16 _ _ => true
  | .rdTx32 _ => true
  | .wrTx32 _ _ => true
  | .rdRx32 _ => true
  | .wrRx32 _ _ => true
  | .rdPcm32 _ => true
  | .wrPcm32 _ _ => true
  | .busErrUnmappedRd8 a => regionOf a == none
  | .busErrUnmappedRd16 a => regionOf a == none
  | .busErrUnmappedRd32 a => regionOf a == none
  | .busErrUnmappedWr8 a _ => regionOf a == none
  | .busErrUnmappedWr16 a _ => regionOf a == none
  | .busErrUnmappedWr32 a _ => regionOf a == none
  | .engineStep => true
  | .accStep _ => true
  | .frameClose => true

/-- The three internal operations, which no transaction encodes (R129). -/
def Instr.internal : Instr → Bool
  | .rdId => false
  | .wrId _ => false
  | .rdCtrl => false
  | .srst _ => false
  | .wrCtrlNop _ => false
  | .rdIrqStatus => false
  | .wrIrqStatus _ => false
  | .rdIrqEnable => false
  | .wrIrqEnable _ => false
  | .rdTxDepthR => false
  | .wrTxDepthR _ => false
  | .rdRxDepthR => false
  | .wrRxDepthR _ => false
  | .rdPcmDepthR => false
  | .wrPcmDepthR _ => false
  | .rdEncCtrl => false
  | .encStart _ => false
  | .wrEncCtrl _ => false
  | .rdEncStatus => false
  | .wrEncStatus _ => false
  | .rdEncSpw => false
  | .wrEncSpw _ => false
  | .rdEncAmp => false
  | .wrEncAmp _ => false
  | .rdEncStartOff => false
  | .wrEncStartOff _ => false
  | .rdEncLen => false
  | .wrEncLen _ => false
  | .rdEncNsamp => false
  | .wrEncNsamp _ => false
  | .rdEncPos => false
  | .wrEncPos _ => false
  | .rdEncInc _ => false
  | .wrEncInc _ _ => false
  | .rdDetPush => false
  | .detPush _ => false
  | .wrDetPushNop _ => false
  | .rdDetThresh => false
  | .wrDetThresh _ => false
  | .rdDetFloor => false
  | .wrDetFloor _ => false
  | .rdDetResult => false
  | .wrDetResult _ => false
  | .rdDetDom => false
  | .wrDetDom _ => false
  | .rdDetSlots => false
  | .wrDetSlots _ => false
  | .rdDetLevel _ => false
  | .wrDetLevel _ _ => false
  | .rdDetOffset _ => false
  | .wrDetOffset _ _ => false
  | .rdRxCtrl => false
  | .rxFlush _ => false
  | .rxAck _ => false
  | .rxAckFlush _ => false
  | .wrRxCtrlNop _ => false
  | .rdRxCfg => false
  | .wrRxCfg _ => false
  | .rdRxStatus => false
  | .wrRxStatus _ => false
  | .rdRxCount => false
  | .wrRxCount _ => false
  | .rdRxFrameLen => false
  | .wrRxFrameLen _ => false
  | .rdRxDebug => false
  | .wrRxDebug _ => false
  | .rdRxRuncnt => false
  | .wrRxRuncnt _ => false
  | .busErrMisalignedRd32At1 _ => false
  | .busErrMisalignedWr32At1 _ _ => false
  | .busErrMisalignedRd32At2 _ => false
  | .busErrMisalignedWr32At2 _ _ => false
  | .busErrMisalignedRd32At3 _ => false
  | .busErrMisalignedWr32At3 _ _ => false
  | .busErrNarrowRd8 _ => false
  | .busErrNarrowRd16 _ => false
  | .busErrNarrowWr8 _ _ => false
  | .busErrNarrowWr16 _ _ => false
  | .rdRsvd _ => false
  | .wrRsvd _ _ => false
  | .rdTx8 _ => false
  | .wrTx8 _ _ => false
  | .rdRx8 _ => false
  | .wrRx8 _ _ => false
  | .rdPcm8 _ => false
  | .wrPcm8 _ _ => false
  | .rdTx16 _ => false
  | .wrTx16 _ _ => false
  | .rdRx16 _ => false
  | .wrRx16 _ _ => false
  | .rdPcm16 _ => false
  | .wrPcm16 _ _ => false
  | .rdTx32 _ => false
  | .wrTx32 _ _ => false
  | .rdRx32 _ => false
  | .wrRx32 _ _ => false
  | .rdPcm32 _ => false
  | .wrPcm32 _ _ => false
  | .busErrUnmappedRd8 _ => false
  | .busErrUnmappedRd16 _ => false
  | .busErrUnmappedRd32 _ => false
  | .busErrUnmappedWr8 _ _ => false
  | .busErrUnmappedWr16 _ _ => false
  | .busErrUnmappedWr32 _ _ => false
  | .engineStep => true
  | .accStep _ => true
  | .frameClose => true

end Sys2Proof
end

