-- ==== Sys2Proof/Decode.lean ====
section
/-!
DEFINITION. The decoder and the encoder of MODEM's transactions (spec 30_encoding R120 to R130). Decoding takes the
first row of the opcode map that matches, in table order (R122); the table below is the spec's, its 64-bit match
and mask split into the address half and the data half. The internal operations have no encoding (R129).
-/

namespace Sys2Proof

/-- One row of the opcode map: a transaction of format `fmt` matches when its address and data agree with the
match bits under the masks (R122); `build` pulls the operand fields out (R123). -/
structure OpcodeRow where
  fmt : Format
  addrMatch : Word
  addrMask : Word
  dataMatch : Word
  dataMask : Word
  build : Word → Word → Instr

/-- The matching condition of R122. -/
def OpcodeRow.hits (r : OpcodeRow) (t : Txn) : Bool :=
  decide (r.fmt = t.fmt) && (t.addr &&& r.addrMask == r.addrMatch) && (t.data &&& r.dataMask == r.dataMatch)

/-- The index of an indexed register: address bits [4:2] (R123). -/
def indexField (a : Word) : Fin 8 := Fin.ofNat 8 (a.toNat / 4)

/-- The number of a register in the register window: address bits [9:2]. -/
def wordField (a : Word) : BitVec 8 := a.extractLsb' 2 8

/-- Rows of the opcode map: identification, reset and interrupt registers. -/
def opcodeRowsBus : List OpcodeRow := [
  ⟨.rd32, 0x00000000, 0xFFFFFFFF, 0x00000000, 0x00000000, fun _ _ => .rdId⟩,
  ⟨.wr32, 0x00000000, 0xFFFFFFFF, 0x00000000, 0x00000000, fun _ d => .wrId d⟩,
  ⟨.rd32, 0x00000004, 0xFFFFFFFF, 0x00000000, 0x00000000, fun _ _ => .rdCtrl⟩,
  ⟨.wr32, 0x00000004, 0xFFFFFFFF, 0x00000001, 0x00000001, fun _ d => .srst d⟩,
  ⟨.wr32, 0x00000004, 0xFFFFFFFF, 0x00000000, 0x00000001, fun _ d => .wrCtrlNop d⟩,
  ⟨.rd32, 0x00000008, 0xFFFFFFFF, 0x00000000, 0x00000000, fun _ _ => .rdIrqStatus⟩,
  ⟨.wr32, 0x00000008, 0xFFFFFFFF, 0x00000000, 0x00000000, fun _ d => .wrIrqStatus d⟩,
  ⟨.rd32, 0x0000000C, 0xFFFFFFFF, 0x00000000, 0x00000000, fun _ _ => .rdIrqEnable⟩,
  ⟨.wr32, 0x0000000C, 0xFFFFFFFF, 0x00000000, 0x00000000, fun _ d => .wrIrqEnable d⟩,
  ⟨.rd32, 0x00000010, 0xFFFFFFFF, 0x00000000, 0x00000000, fun _ _ => .rdTxDepthR⟩,
  ⟨.wr32, 0x00000010, 0xFFFFFFFF, 0x00000000, 0x00000000, fun _ d => .wrTxDepthR d⟩,
  ⟨.rd32, 0x00000014, 0xFFFFFFFF, 0x00000000, 0x00000000, fun _ _ => .rdRxDepthR⟩,
  ⟨.wr32, 0x00000014, 0xFFFFFFFF, 0x00000000, 0x00000000, fun _ d => .wrRxDepthR d⟩,
  ⟨.rd32, 0x00000018, 0xFFFFFFFF, 0x00000000, 0x00000000, fun _ _ => .rdPcmDepthR⟩,
  ⟨.wr32, 0x00000018, 0xFFFFFFFF, 0x00000000, 0x00000000, fun _ d => .wrPcmDepthR d⟩ ]

/-- Rows of the opcode map: encoder registers. -/
def opcodeRowsEnc : List OpcodeRow := [
  ⟨.rd32, 0x00000100, 0xFFFFFFFF, 0x00000000, 0x00000000, fun _ _ => .rdEncCtrl⟩,
  ⟨.wr32, 0x00000100, 0xFFFFFFFF, 0x00000001, 0x00000001, fun _ d => .encStart d⟩,
  ⟨.wr32, 0x00000100, 0xFFFFFFFF, 0x00000000, 0x00000001, fun _ d => .wrEncCtrl d⟩,
  ⟨.rd32, 0x00000104, 0xFFFFFFFF, 0x00000000, 0x00000000, fun _ _ => .rdEncStatus⟩,
  ⟨.wr32, 0x00000104, 0xFFFFFFFF, 0x00000000, 0x00000000, fun _ d => .wrEncStatus d⟩,
  ⟨.rd32, 0x00000108, 0xFFFFFFFF, 0x00000000, 0x00000000, fun _ _ => .rdEncSpw⟩,
  ⟨.wr32, 0x00000108, 0xFFFFFFFF, 0x00000000, 0x00000000, fun _ d => .wrEncSpw d⟩,
  ⟨.rd32, 0x0000010C, 0xFFFFFFFF, 0x00000000, 0x00000000, fun _ _ => .rdEncAmp⟩,
  ⟨.wr32, 0x0000010C, 0xFFFFFFFF, 0x00000000, 0x00000000, fun _ d => .wrEncAmp d⟩,
  ⟨.rd32, 0x00000110, 0xFFFFFFFF, 0x00000000, 0x00000000, fun _ _ => .rdEncStartOff⟩,
  ⟨.wr32, 0x00000110, 0xFFFFFFFF, 0x00000000, 0x00000000, fun _ d => .wrEncStartOff d⟩,
  ⟨.rd32, 0x00000114, 0xFFFFFFFF, 0x00000000, 0x00000000, fun _ _ => .rdEncLen⟩,
  ⟨.wr32, 0x00000114, 0xFFFFFFFF, 0x00000000, 0x00000000, fun _ d => .wrEncLen d⟩,
  ⟨.rd32, 0x00000118, 0xFFFFFFFF, 0x00000000, 0x00000000, fun _ _ => .rdEncNsamp⟩,
  ⟨.wr32, 0x00000118, 0xFFFFFFFF, 0x00000000, 0x00000000, fun _ d => .wrEncNsamp d⟩,
  ⟨.rd32, 0x0000011C, 0xFFFFFFFF, 0x00000000, 0x00000000, fun _ _ => .rdEncPos⟩,
  ⟨.wr32, 0x0000011C, 0xFFFFFFFF, 0x00000000, 0x00000000, fun _ d => .wrEncPos d⟩,
  ⟨.rd32, 0x00000120, 0xFFFFFFE3, 0x00000000, 0x00000000, fun a _ => .rdEncInc (indexField a)⟩,
  ⟨.wr32, 0x00000120, 0xFFFFFFE3, 0x00000000, 0x00000000, fun a d => .wrEncInc (indexField a) d⟩ ]

/-- Rows of the opcode map: detector registers. -/
def opcodeRowsDet : List OpcodeRow := [
  ⟨.rd32, 0x00000200, 0xFFFFFFFF, 0x00000000, 0x00000000, fun _ _ => .rdDetPush⟩,
  ⟨.wr32, 0x00000200, 0xFFFFFFFF, 0x00000001, 0x00000001, fun _ d => .detPush d⟩,
  ⟨.wr32, 0x00000200, 0xFFFFFFFF, 0x00000000, 0x00000001, fun _ d => .wrDetPushNop d⟩,
  ⟨.rd32, 0x00000204, 0xFFFFFFFF, 0x00000000, 0x00000000, fun _ _ => .rdDetThresh⟩,
  ⟨.wr32, 0x00000204, 0xFFFFFFFF, 0x00000000, 0x00000000, fun _ d => .wrDetThresh d⟩,
  ⟨.rd32, 0x00000208, 0xFFFFFFFF, 0x00000000, 0x00000000, fun _ _ => .rdDetFloor⟩,
  ⟨.wr32, 0x00000208, 0xFFFFFFFF, 0x00000000, 0x00000000, fun _ d => .wrDetFloor d⟩,
  ⟨.rd32, 0x0000020C, 0xFFFFFFFF, 0x00000000, 0x00000000, fun _ _ => .rdDetResult⟩,
  ⟨.wr32, 0x0000020C, 0xFFFFFFFF, 0x00000000, 0x00000000, fun _ d => .wrDetResult d⟩,
  ⟨.rd32, 0x00000210, 0xFFFFFFFF, 0x00000000, 0x00000000, fun _ _ => .rdDetDom⟩,
  ⟨.wr32, 0x00000210, 0xFFFFFFFF, 0x00000000, 0x00000000, fun _ d => .wrDetDom d⟩,
  ⟨.rd32, 0x00000214, 0xFFFFFFFF, 0x00000000, 0x00000000, fun _ _ => .rdDetSlots⟩,
  ⟨.wr32, 0x00000214, 0xFFFFFFFF, 0x00000000, 0x00000000, fun _ d => .wrDetSlots d⟩,
  ⟨.rd32, 0x00000220, 0xFFFFFFE3, 0x00000000, 0x00000000, fun a _ => .rdDetLevel (indexField a)⟩,
  ⟨.wr32, 0x00000220, 0xFFFFFFE3, 0x00000000, 0x00000000, fun a d => .wrDetLevel (indexField a) d⟩,
  ⟨.rd32, 0x00000240, 0xFFFFFFE3, 0x00000000, 0x00000000, fun a _ => .rdDetOffset (indexField a)⟩,
  ⟨.wr32, 0x00000240, 0xFFFFFFE3, 0x00000000, 0x00000000, fun a d => .wrDetOffset (indexField a) d⟩ ]

/-- Rows of the opcode map: accumulator registers. -/
def opcodeRowsAcc : List OpcodeRow := [
  ⟨.rd32, 0x00000300, 0xFFFFFFFF, 0x00000000, 0x00000000, fun _ _ => .rdRxCtrl⟩,
  ⟨.wr32, 0x00000300, 0xFFFFFFFF, 0x00000001, 0x00000003, fun _ d => .rxFlush d⟩,
  ⟨.wr32, 0x00000300, 0xFFFFFFFF, 0x00000002, 0x00000003, fun _ d => .rxAck d⟩,
  ⟨.wr32, 0x00000300, 0xFFFFFFFF, 0x00000003, 0x00000003, fun _ d => .rxAckFlush d⟩,
  ⟨.wr32, 0x00000300, 0xFFFFFFFF, 0x00000000, 0x00000003, fun _ d => .wrRxCtrlNop d⟩,
  ⟨.rd32, 0x00000304, 0xFFFFFFFF, 0x00000000, 0x00000000, fun _ _ => .rdRxCfg⟩,
  ⟨.wr32, 0x00000304, 0xFFFFFFFF, 0x00000000, 0x00000000, fun _ d => .wrRxCfg d⟩,
  ⟨.rd32, 0x00000308, 0xFFFFFFFF, 0x00000000, 0x00000000, fun _ _ => .rdRxStatus⟩,
  ⟨.wr32, 0x00000308, 0xFFFFFFFF, 0x00000000, 0x00000000, fun _ d => .wrRxStatus d⟩,
  ⟨.rd32, 0x0000030C, 0xFFFFFFFF, 0x00000000, 0x00000000, fun _ _ => .rdRxCount⟩,
  ⟨.wr32, 0x0000030C, 0xFFFFFFFF, 0x00000000, 0x00000000, fun _ d => .wrRxCount d⟩,
  ⟨.rd32, 0x00000310, 0xFFFFFFFF, 0x00000000, 0x00000000, fun _ _ => .rdRxFrameLen⟩,
  ⟨.wr32, 0x00000310, 0xFFFFFFFF, 0x00000000, 0x00000000, fun _ d => .wrRxFrameLen d⟩,
  ⟨.rd32, 0x00000314, 0xFFFFFFFF, 0x00000000, 0x00000000, fun _ _ => .rdRxDebug⟩,
  ⟨.wr32, 0x00000314, 0xFFFFFFFF, 0x00000000, 0x00000000, fun _ d => .wrRxDebug d⟩,
  ⟨.rd32, 0x00000318, 0xFFFFFFFF, 0x00000000, 0x00000000, fun _ _ => .rdRxRuncnt⟩,
  ⟨.wr32, 0x00000318, 0xFFFFFFFF, 0x00000000, 0x00000000, fun _ d => .wrRxRuncnt d⟩ ]

/-- Rows of the opcode map: misaligned and narrow register accesses, then the reserved register offsets. -/
def opcodeRowsRegErr : List OpcodeRow := [
  ⟨.rd32, 0x00000001, 0xFFFFFC03, 0x00000000, 0x00000000, fun a _ => .busErrMisalignedRd32At1 (wordField a)⟩,
  ⟨.wr32, 0x00000001, 0xFFFFFC03, 0x00000000, 0x00000000, fun a d => .busErrMisalignedWr32At1 (wordField a) d⟩,
  ⟨.rd32, 0x00000002, 0xFFFFFC03, 0x00000000, 0x00000000, fun a _ => .busErrMisalignedRd32At2 (wordField a)⟩,
  ⟨.wr32, 0x00000002, 0xFFFFFC03, 0x00000000, 0x00000000, fun a d => .busErrMisalignedWr32At2 (wordField a) d⟩,
  ⟨.rd32, 0x00000003, 0xFFFFFC03, 0x00000000, 0x00000000, fun a _ => .busErrMisalignedRd32At3 (wordField a)⟩,
  ⟨.wr32, 0x00000003, 0xFFFFFC03, 0x00000000, 0x00000000, fun a d => .busErrMisalignedWr32At3 (wordField a) d⟩,
  ⟨.rd8, 0x00000000, 0xFFFFFC00, 0x00000000, 0x00000000, fun a _ => .busErrNarrowRd8 (a.extractLsb' 0 10)⟩,
  ⟨.rd16, 0x00000000, 0xFFFFFC00, 0x00000000, 0x00000000, fun a _ => .busErrNarrowRd16 (a.extractLsb' 0 10)⟩,
  ⟨.wr8, 0x00000000, 0xFFFFFC00, 0x00000000, 0x00000000, fun a d => .busErrNarrowWr8 (a.extractLsb' 0 10) (d.setWidth 8)⟩,
  ⟨.wr16, 0x00000000, 0xFFFFFC00, 0x00000000, 0x00000000, fun a d => .busErrNarrowWr16 (a.extractLsb' 0 10) (d.setWidth 16)⟩,
  ⟨.rd32, 0x00000000, 0xFFFFFC00, 0x00000000, 0x00000000, fun a _ => .rdRsvd (wordField a)⟩,
  ⟨.wr32, 0x00000000, 0xFFFFFC00, 0x00000000, 0x00000000, fun a d => .wrRsvd (wordField a) d⟩ ]

/-- Rows of the opcode map: the RAM windows. -/
def opcodeRowsRam : List OpcodeRow := [
  ⟨.rd8, 0x00001000, 0xFFFFF000, 0x00000000, 0x00000000, fun a _ => .rdTx8 (a.extractLsb' 0 12)⟩,
  ⟨.wr8, 0x00001000, 0xFFFFF000, 0x00000000, 0x00000000, fun a d => .wrTx8 (a.extractLsb' 0 12) (d.setWidth 8)⟩,
  ⟨.rd8, 0x00002000, 0xFFFFF000, 0x00000000, 0x00000000, fun a _ => .rdRx8 (a.extractLsb' 0 12)⟩,
  ⟨.wr8, 0x00002000, 0xFFFFF000, 0x00000000, 0x00000000, fun a d => .wrRx8 (a.extractLsb' 0 12) (d.setWidth 8)⟩,
  ⟨.rd8, 0x00100000, 0xFFF00000, 0x00000000, 0x00000000, fun a _ => .rdPcm8 (a.extractLsb' 0 20)⟩,
  ⟨.wr8, 0x00100000, 0xFFF00000, 0x00000000, 0x00000000, fun a d => .wrPcm8 (a.extractLsb' 0 20) (d.setWidth 8)⟩,
  ⟨.rd16, 0x00001000, 0xFFFFF000, 0x00000000, 0x00000000, fun a _ => .rdTx16 (a.extractLsb' 0 12)⟩,
  ⟨.wr16, 0x00001000, 0xFFFFF000, 0x00000000, 0x00000000, fun a d => .wrTx16 (a.extractLsb' 0 12) (d.setWidth 16)⟩,
  ⟨.rd16, 0x00002000, 0xFFFFF000, 0x00000000, 0x00000000, fun a _ => .rdRx16 (a.extractLsb' 0 12)⟩,
  ⟨.wr16, 0x00002000, 0xFFFFF000, 0x00000000, 0x00000000, fun a d => .wrRx16 (a.extractLsb' 0 12) (d.setWidth 16)⟩,
  ⟨.rd16, 0x00100000, 0xFFF00000, 0x00000000, 0x00000000, fun a _ => .rdPcm16 (a.extractLsb' 0 20)⟩,
  ⟨.wr16, 0x00100000, 0xFFF00000, 0x00000000, 0x00000000, fun a d => .wrPcm16 (a.extractLsb' 0 20) (d.setWidth 16)⟩,
  ⟨.rd32, 0x00001000, 0xFFFFF000, 0x00000000, 0x00000000, fun a _ => .rdTx32 (a.extractLsb' 0 12)⟩,
  ⟨.wr32, 0x00001000, 0xFFFFF000, 0x00000000, 0x00000000, fun a d => .wrTx32 (a.extractLsb' 0 12) d⟩,
  ⟨.rd32, 0x00002000, 0xFFFFF000, 0x00000000, 0x00000000, fun a _ => .rdRx32 (a.extractLsb' 0 12)⟩,
  ⟨.wr32, 0x00002000, 0xFFFFF000, 0x00000000, 0x00000000, fun a d => .wrRx32 (a.extractLsb' 0 12) d⟩,
  ⟨.rd32, 0x00100000, 0xFFF00000, 0x00000000, 0x00000000, fun a _ => .rdPcm32 (a.extractLsb' 0 20)⟩,
  ⟨.wr32, 0x00100000, 0xFFF00000, 0x00000000, 0x00000000, fun a d => .wrPcm32 (a.extractLsb' 0 20) d⟩ ]

/-- Rows of the opcode map: the unmapped catch-alls. -/
def opcodeRowsUnmapped : List OpcodeRow := [
  ⟨.rd8, 0x00000000, 0x00000000, 0x00000000, 0x00000000, fun a _ => .busErrUnmappedRd8 a⟩,
  ⟨.rd16, 0x00000000, 0x00000000, 0x00000000, 0x00000000, fun a _ => .busErrUnmappedRd16 a⟩,
  ⟨.rd32, 0x00000000, 0x00000000, 0x00000000, 0x00000000, fun a _ => .busErrUnmappedRd32 a⟩,
  ⟨.wr8, 0x00000000, 0x00000000, 0x00000000, 0x00000000, fun a d => .busErrUnmappedWr8 a (d.setWidth 8)⟩,
  ⟨.wr16, 0x00000000, 0x00000000, 0x00000000, 0x00000000, fun a d => .busErrUnmappedWr16 a (d.setWidth 16)⟩,
  ⟨.wr32, 0x00000000, 0x00000000, 0x00000000, 0x00000000, fun a d => .busErrUnmappedWr32 a d⟩ ]

/-- The opcode map, in the table's order (30_encoding section 4). -/
def opcodeTable : List OpcodeRow :=
  opcodeRowsBus ++ opcodeRowsEnc ++ opcodeRowsDet ++ opcodeRowsAcc ++ opcodeRowsRegErr ++ opcodeRowsRam ++
  opcodeRowsUnmapped

/-- The first row of a list that matches (R122). -/
def firstRow (t : Txn) : List OpcodeRow → Option OpcodeRow
  | [] => none
  | r :: rest => if r.hits t then some r else firstRow t rest

/-- The instruction of an access to no region: the outcome of the six catch-all rows (R164). -/
def unmappedAccess (t : Txn) : Instr :=
  match t.fmt with
  | .rd8 => .busErrUnmappedRd8 t.addr
  | .rd16 => .busErrUnmappedRd16 t.addr
  | .rd32 => .busErrUnmappedRd32 t.addr
  | .wr8 => .busErrUnmappedWr8 t.addr (t.data.setWidth 8)
  | .wr16 => .busErrUnmappedWr16 t.addr (t.data.setWidth 16)
  | .wr32 => .busErrUnmappedWr32 t.addr t.data

/-- The decoder: total, by the first matching row (R122, R128). The catch-all rows leave no transaction without a
row, so the second branch is never taken. -/
def decode (t : Txn) : Instr :=
  match firstRow t opcodeTable with
  | some r => r.build t.addr t.data
  | none => unmappedAccess t

/-- The address of an indexed register: its base offset plus 4·k (R46, R53, R54). -/
def indexedAddr (base : Nat) (k : Fin 8) : Word := BitVec.ofNat 32 (base + 4 * k.val)

/-- The address of byte `low` of register word `r` of the register window. -/
def registerAddr (r : BitVec 8) (low : BitVec 2) : Word := (0#22 ++ r) ++ low

/-- A read transaction: its data field is 0 (R120). -/
def readTxn (f : Format) (a : Word) : Option Txn := some ⟨f, a, 0⟩

/-- A write transaction of a value narrower than the data field, or as wide: the upper data bits are 0 (R121). -/
def writeTxn {w : Nat} (f : Format) (a : Word) (d : BitVec w) : Option Txn := some ⟨f, a, d.setWidth 32⟩

/-- The encoder, written from the same table: the transaction that stands for an instruction, `none` for an
internal operation (R129). -/
def encode : Instr → Option Txn
  | .rdId => readTxn .rd32 0x000
  | .wrId d => writeTxn .wr32 0x000 d
  | .rdCtrl => readTxn .rd32 0x004
  | .srst d => writeTxn .wr32 0x004 d
  | .wrCtrlNop d => writeTxn .wr32 0x004 d
  | .rdIrqStatus => readTxn .rd32 0x008
  | .wrIrqStatus d => writeTxn .wr32 0x008 d
  | .rdIrqEnable => readTxn .rd32 0x00C
  | .wrIrqEnable d => writeTxn .wr32 0x00C d
  | .rdTxDepthR => readTxn .rd32 0x010
  | .wrTxDepthR d => writeTxn .wr32 0x010 d
  | .rdRxDepthR => readTxn .rd32 0x014
  | .wrRxDepthR d => writeTxn .wr32 0x014 d
  | .rdPcmDepthR => readTxn .rd32 0x018
  | .wrPcmDepthR d => writeTxn .wr32 0x018 d
  | .rdEncCtrl => readTxn .rd32 0x100
  | .encStart d => writeTxn .wr32 0x100 d
  | .wrEncCtrl d => writeTxn .wr32 0x100 d
  | .rdEncStatus => readTxn .rd32 0x104
  | .wrEncStatus d => writeTxn .wr32 0x104 d
  | .rdEncSpw => readTxn .rd32 0x108
  | .wrEncSpw d => writeTxn .wr32 0x108 d
  | .rdEncAmp => readTxn .rd32 0x10C
  | .wrEncAmp d => writeTxn .wr32 0x10C d
  | .rdEncStartOff => readTxn .rd32 0x110
  | .wrEncStartOff d => writeTxn .wr32 0x110 d
  | .rdEncLen => readTxn .rd32 0x114
  | .wrEncLen d => writeTxn .wr32 0x114 d
  | .rdEncNsamp => readTxn .rd32 0x118
  | .wrEncNsamp d => writeTxn .wr32 0x118 d
  | .rdEncPos => readTxn .rd32 0x11C
  | .wrEncPos d => writeTxn .wr32 0x11C d
  | .rdEncInc k => readTxn .rd32 (indexedAddr 0x120 k)
  | .wrEncInc k d => writeTxn .wr32 (indexedAddr 0x120 k) d
  | .rdDetPush => readTxn .rd32 0x200
  | .detPush d => writeTxn .wr32 0x200 d
  | .wrDetPushNop d => writeTxn .wr32 0x200 d
  | .rdDetThresh => readTxn .rd32 0x204
  | .wrDetThresh d => writeTxn .wr32 0x204 d
  | .rdDetFloor => readTxn .rd32 0x208
  | .wrDetFloor d => writeTxn .wr32 0x208 d
  | .rdDetResult => readTxn .rd32 0x20C
  | .wrDetResult d => writeTxn .wr32 0x20C d
  | .rdDetDom => readTxn .rd32 0x210
  | .wrDetDom d => writeTxn .wr32 0x210 d
  | .rdDetSlots => readTxn .rd32 0x214
  | .wrDetSlots d => writeTxn .wr32 0x214 d
  | .rdDetLevel i => readTxn .rd32 (indexedAddr 0x220 i)
  | .wrDetLevel i d => writeTxn .wr32 (indexedAddr 0x220 i) d
  | .rdDetOffset i => readTxn .rd32 (indexedAddr 0x240 i)
  | .wrDetOffset i d => writeTxn .wr32 (indexedAddr 0x240 i) d
  | .rdRxCtrl => readTxn .rd32 0x300
  | .rxFlush d => writeTxn .wr32 0x300 d
  | .rxAck d => writeTxn .wr32 0x300 d
  | .rxAckFlush d => writeTxn .wr32 0x300 d
  | .wrRxCtrlNop d => writeTxn .wr32 0x300 d
  | .rdRxCfg => readTxn .rd32 0x304
  | .wrRxCfg d => writeTxn .wr32 0x304 d
  | .rdRxStatus => readTxn .rd32 0x308
  | .wrRxStatus d => writeTxn .wr32 0x308 d
  | .rdRxCount => readTxn .rd32 0x30C
  | .wrRxCount d => writeTxn .wr32 0x30C d
  | .rdRxFrameLen => readTxn .rd32 0x310
  | .wrRxFrameLen d => writeTxn .wr32 0x310 d
  | .rdRxDebug => readTxn .rd32 0x314
  | .wrRxDebug d => writeTxn .wr32 0x314 d
  | .rdRxRuncnt => readTxn .rd32 0x318
  | .wrRxRuncnt d => writeTxn .wr32 0x318 d
  | .busErrMisalignedRd32At1 r => readTxn .rd32 (registerAddr r 1)
  | .busErrMisalignedWr32At1 r d => writeTxn .wr32 (registerAddr r 1) d
  | .busErrMisalignedRd32At2 r => readTxn .rd32 (registerAddr r 2)
  | .busErrMisalignedWr32At2 r d => writeTxn .wr32 (registerAddr r 2) d
  | .busErrMisalignedRd32At3 r => readTxn .rd32 (registerAddr r 3)
  | .busErrMisalignedWr32At3 r d => writeTxn .wr32 (registerAddr r 3) d
  | .busErrNarrowRd8 a => readTxn .rd8 (0#22 ++ a)
  | .busErrNarrowRd16 a => readTxn .rd16 (0#22 ++ a)
  | .busErrNarrowWr8 a d => writeTxn .wr8 (0#22 ++ a) d
  | .busErrNarrowWr16 a d => writeTxn .wr16 (0#22 ++ a) d
  | .rdRsvd r => readTxn .rd32 (registerAddr r 0)
  | .wrRsvd r d => writeTxn .wr32 (registerAddr r 0) d
  | .rdTx8 i => readTxn .rd8 (0x00001#20 ++ i)
  | .wrTx8 i d => writeTxn .wr8 (0x00001#20 ++ i) d
  | .rdRx8 i => readTxn .rd8 (0x00002#20 ++ i)
  | .wrRx8 i d => writeTxn .wr8 (0x00002#20 ++ i) d
  | .rdPcm8 i => readTxn .rd8 (0x001#12 ++ i)
  | .wrPcm8 i d => writeTxn .wr8 (0x001#12 ++ i) d
  | .rdTx16 i => readTxn .rd16 (0x00001#20 ++ i)
  | .wrTx16 i d => writeTxn .wr16 (0x00001#20 ++ i) d
  | .rdRx16 i => readTxn .rd16 (0x00002#20 ++ i)
  | .wrRx16 i d => writeTxn .wr16 (0x00002#20 ++ i) d
  | .rdPcm16 i => readTxn .rd16 (0x001#12 ++ i)
  | .wrPcm16 i d => writeTxn .wr16 (0x001#12 ++ i) d
  | .rdTx32 i => readTxn .rd32 (0x00001#20 ++ i)
  | .wrTx32 i d => writeTxn .wr32 (0x00001#20 ++ i) d
  | .rdRx32 i => readTxn .rd32 (0x00002#20 ++ i)
  | .wrRx32 i d => writeTxn .wr32 (0x00002#20 ++ i) d
  | .rdPcm32 i => readTxn .rd32 (0x001#12 ++ i)
  | .wrPcm32 i d => writeTxn .wr32 (0x001#12 ++ i) d
  | .busErrUnmappedRd8 a => readTxn .rd8 a
  | .busErrUnmappedRd16 a => readTxn .rd16 a
  | .busErrUnmappedRd32 a => readTxn .rd32 a
  | .busErrUnmappedWr8 a d => writeTxn .wr8 a d
  | .busErrUnmappedWr16 a d => writeTxn .wr16 a d
  | .busErrUnmappedWr32 a d => writeTxn .wr32 a d
  | .engineStep => none
  | .accStep _ => none
  | .frameClose => none

/-- A transaction as R120 and R121 spell it: a read's data field is 0, and so are the data bits a narrow write does
not carry. Decoding ignores those bits. -/
def Txn.canonical (t : Txn) : Bool :=
  match t.fmt with
  | .rd8 | .rd16 | .rd32 => t.data == 0
  | .wr8 => t.data == (t.data.setWidth 8).setWidth 32
  | .wr16 => t.data == (t.data.setWidth 16).setWidth 32
  | .wr32 => true

/-- Why a number does not spell a transaction. -/
inductive DecodeError where
  /-- Bits [66:64] hold 6 or 7, which number no format. Safe: the number stands for no transaction. -/
  | unknownFormat (code : Nat)
  /-- A bit above bit 66 is set: R120 knows no longer transaction. Safe, as above. -/
  | tooLong
  deriving DecidableEq, Repr

/-- The number of each format in bits [66:64] of a numbered transaction. DESIGN CHOICE: the spec keeps the format
beside TW and gives it no bits; log entry 6. -/
def formatOfCode : Nat → Option Format
  | 0 => some .wr32
  | 1 => some .rd32
  | 2 => some .wr16
  | 3 => some .rd16
  | 4 => some .wr8
  | 5 => some .rd8
  | _ => none

/-- A transaction from a number: TW in bits [63:0], as the opcode table numbers them, and the format in bits
[66:64] (log entry 6). -/
def Txn.ofNat (w : Nat) : Except DecodeError Txn :=
  if 2 ^ 67 ≤ w then .error .tooLong
  else match formatOfCode (w / 2 ^ 64) with
    | some f => .ok ⟨f, BitVec.ofNat 32 (w / 2 ^ 32), BitVec.ofNat 32 w⟩
    | none => .error (.unknownFormat (w / 2 ^ 64))

/-- The transaction the host asks about by number: the low `nbits` bits of `w`, every bit above them 0. -/
def tableTxn (nbits w : Nat) : Except DecodeError Txn := Txn.ofNat (w % 2 ^ nbits)

/-- The instruction the decoder reads from a numbered transaction. -/
def decodeTableWord (nbits w : Nat) : Option Instr :=
  match tableTxn nbits w with
  | .ok t => some (decode t)
  | .error _ => none

end Sys2Proof
end

