-- ==== Sys2Proof/Machine/Fetch.lean ====
section
/-!
DEFINITION. Where the next instruction comes from. MODEM has no program counter and fetches nothing (spec 10_state
R30): the next event of the single global order (20_memory R104, R105) is a bus transaction some master issues, a
turn of the encoder engine, or a change of the reset input (70_reset_and_hazards R330). The schedule is a list of
the state, so a claim over all states covers every interleaving.
-/

namespace Sys2Proof.Machine

/-- What happens next: the instruction to run, if any, and the state it runs in. A bus transaction runs the
instruction it decodes to, an engine turn runs ENGINE_STEP. With `rst` asserted, transactions are ignored and the
engine takes no step (R330). When no event is scheduled, a busy engine takes its next step (weak fairness, R105) and
an idle MODEM waits (R308). -/
def fetch (s : State) : Option Instr × State :=
  match s.schedule with
  | [] => (if s.enc.busy && !s.rst then some .engineStep else none, s)
  | .bus t :: rest =>
    let s' := s.setSchedule rest
    if s.rst then (none, s'.platformReply t.fmt) else (some (decode t), s')
  | .engineTurn :: rest => (if s.rst then none else some .engineStep, s.setSchedule rest)
  | .assertReset :: rest => (none, (s.setSchedule rest).setRst true)
  | .releaseReset :: rest =>
    let s' := s.setSchedule rest
    (none, if s.rst then s'.powerOnReset else s')

/-- Put a transaction in front of the schedule, with `rst` deasserted, so that the next step runs it. -/
def State.offer (s : State) (t : Txn) : State := (s.setSchedule (.bus t :: s.schedule)).setRst false

end Sys2Proof.Machine
end

