-- ==== Sys2Proof/Machine/Step.lean ====
section
/-!
DEFINITION. One step of the machine: the next event of the global order, and the instruction it runs.
-/

namespace Sys2Proof.Machine

/-- One step: the next event, then the meaning of the instruction it runs, if it runs one. -/
def step (s : State) : Host.Outcome State Fault Refusal :=
  match fetch s with
  | (some i, t) => exec i t
  | (none, t) => .next t

/-- The state whose next step runs the numbered transaction: it is put in front of the schedule. A number that
spells no transaction changes nothing. Log entry 6 says how a transaction is numbered. -/
def State.withFetchWord (s : State) (nbits w : Nat) : State :=
  match tableTxn nbits w with
  | .ok t => s.offer t
  | .error _ => s

end Sys2Proof.Machine
end

