-- ==== Sys2Proof/Machine/HostProgram.lean ====
section
/-!
DEFINITION. The master's side, as far as the spec gives it: the lines and pseudo-instructions of a host program (spec
30_encoding R140, R141), how a program runs against MODEM (R141, R142), and the conversions the host makes before it
writes a register (10_state R62, 41_encoder R173, R174). MODEM itself uses none of them.
-/

namespace Sys2Proof.Machine

open Sys2Proof.Config

/-! ### Lines and pseudo-instructions -/

/-- One line of a host program (R140), and `poll`, the one pseudo-instruction whose expansion is a loop (R141). -/
inductive HostLine where
  | wr32 (off data : Word)
  | wr16 (off : Word) (data : Half)
  | wr8 (off : Word) (data : Byte)
  | rd32 (off : Word) (name : String)
  | rd16 (off : Word) (name : String)
  | rd8 (off : Word) (name : String)
  | expect (name : String) (value : Word)
  | poll (off mask value : Word)
  deriving DecidableEq, Repr

/-- The transaction a line performs: none for an assertion (R140); for a poll, each time, one read (R141). -/
def HostLine.txn : HostLine → Option Txn
  | .wr32 o d => some ⟨.wr32, o, d⟩
  | .wr16 o d => some ⟨.wr16, o, d.setWidth 32⟩
  | .wr8 o d => some ⟨.wr8, o, d.setWidth 32⟩
  | .rd32 o _ => some ⟨.rd32, o, 0⟩
  | .rd16 o _ => some ⟨.rd16, o, 0⟩
  | .rd8 o _ => some ⟨.rd8, o, 0⟩
  | .expect _ _ => none
  | .poll o _ _ => some ⟨.rd32, o, 0⟩

/-- The name a line gives its read result: `t` in a poll's loop (R140, R141). -/
def HostLine.resultName : HostLine → Option String
  | .rd32 _ n => some n
  | .rd16 _ n => some n
  | .rd8 _ n => some n
  | .poll _ _ _ => some "t"
  | _ => none

/-- `start CRC` (R141). -/
def hostStart (crc : Bool) : List HostLine := [.wr32 0x100 (if crc then 3 else 1)]

/-- `push L0,...,L7` (R141): the eight levels in order, then DET_PUSH. -/
def hostPush (l : Bank Half) : List HostLine :=
  [.wr32 0x220 (l.b0.setWidth 32), .wr32 0x224 (l.b1.setWidth 32), .wr32 0x228 (l.b2.setWidth 32),
    .wr32 0x22C (l.b3.setWidth 32), .wr32 0x230 (l.b4.setWidth 32), .wr32 0x234 (l.b5.setWidth 32),
    .wr32 0x238 (l.b6.setWidth 32), .wr32 0x23C (l.b7.setWidth 32), .wr32 0x200 1]

/-- `flush` (R141). -/
def hostFlush : List HostLine := [.wr32 0x300 1]

/-- `ack` (R141). -/
def hostAck : List HostLine := [.wr32 0x300 2]

/-- `srst` (R141). -/
def hostSrst : List HostLine := [.wr32 0x004 1]

/-- `fillpcm A, N, V` (R141). -/
def hostFillPcm (a n : Nat) (v : Half) : List HostLine :=
  (List.range n).map fun j => .wr16 (BitVec.ofNat 32 (0x100000 + 2 * (a + j))) v

/-- `poll OFF, MASK, VALUE` (R141). How many reads it makes is for the run to say (`HostRun.masterTurn`). -/
def hostPoll (off mask value : Word) : List HostLine := [.poll off mask value]

/-! ### Running a program -/

/-- The data word of a read, whatever its response: with ERROR it is the 0 the bus returns (R91). -/
def Reply.word : Reply → Option Word
  | .read _ d => some d
  | _ => Option.none

/-- Whether a read ends a poll: (t AND MASK) = VALUE (R141). -/
def pollEnds (mask value : Word) (r : Reply) : Bool :=
  match r.word with
  | some t => t &&& mask == value
  | none => false

/-- Whether a line is over once its transaction got the reply: a poll only when its condition holds (R141). -/
def HostLine.overAfter : HostLine → Reply → Bool
  | .poll _ mask value, r => pollEnds mask value r
  | _, _ => true

/-- A host program under way (R140 to R142): MODEM, the lines still to perform, the read results named so far (the
latest first), the transactions spelled so far, which are the program's encoding once it has ended, and whether
every assertion so far held. -/
structure HostRun where
  modem : State
  todo : List HostLine
  names : List (String × Word)
  issued : List Txn
  held : Bool
  deriving DecidableEq, Repr

/-- The start of a program. -/
def HostRun.start (s : State) (p : List HostLine) : HostRun := ⟨s, p, [], [], true⟩

/-- Whose event comes next in the global order: the program's master, or anything else, an engine step, another
master or the reset input, as MODEM's schedule has it (R90, R104, R105). -/
inductive HostTurn where
  | master
  | other
  deriving DecidableEq, Repr

/-- A run that goes on with whatever state MODEM stepped to, or stops where MODEM stops. -/
def HostRun.goOn (k : State → HostRun) : StepResult → Host.Outcome HostRun Fault Refusal
  | .next t => .next (k t)
  | .fault f => .fault f
  | .refused f => .refused f

/-- The run after line `l`, with lines `rest` behind it, performed transaction `t` and left MODEM at `u`: the result
is named, and the line stays in front until it is over. -/
def HostRun.afterTxn (r : HostRun) (l : HostLine) (rest : List HostLine) (t : Txn) (u : State) : HostRun :=
  { r with
    modem := u
    todo := if l.overAfter u.reply then rest else l :: rest
    names := (match l.resultName, u.reply.word with
      | some n, some d => (n, d) :: r.names
      | _, _ => r.names)
    issued := r.issued ++ [t] }

/-- Whether an assertion holds of the results named so far (R140): the latest of its name. DESIGN CHOICE: log entry
14. -/
def HostLine.holds : HostLine → List (String × Word) → Bool
  | .expect n v, names => names.lookup n == some v
  | _, _ => true

/-- The master performs its next line as the next event of the global order (R140, R141). A poll whose condition
never holds stays in front for ever: the program does not end (U15). A program with no line left has ended (R142). -/
def HostRun.masterTurn (r : HostRun) : Host.Outcome HostRun Fault Refusal :=
  match r.todo with
  | [] => .next r
  | l :: rest =>
    match l.txn with
    | some t => HostRun.goOn (r.afterTxn l rest t) (step (r.modem.setSchedule (.bus t :: r.modem.schedule)))
    | none => .next { r with todo := rest, held := r.held && l.holds r.names }

/-- One event of a run: the master's, or another, which the program does not see. -/
def HostRun.turn (r : HostRun) : HostTurn → Host.Outcome HostRun Fault Refusal
  | .master => r.masterTurn
  | .other => HostRun.goOn (fun u => { r with modem := u }) (step r.modem)

/-- The run under a given interleaving, stopping where an event does. -/
def HostRun.turns (r : HostRun) : List HostTurn → Host.Outcome HostRun Fault Refusal
  | [] => .next r
  | x :: xs =>
    match r.turn x with
    | .next q => q.turns xs
    | .fault f => .fault f
    | .refused f => .refused f

/-! ### Conversions -/

/-- The nearest integer, a tie upwards; the spec writes only `round` (log entry 9). -/
def nearest (x : Rat) : Int := (x + 1 / 2).floor

/-- INC[k] = round(f_k · 2^32 / sampleRate) mod 2^32 (R173). -/
def hostInc (freq sampleRate : Rat) : Word := BitVec.ofInt 32 (nearest (freq * 4294967296 / sampleRate))

/-- SPW = ⌈wordDuration · sampleRate⌉ (R174). -/
def hostSpw (wordDuration sampleRate : Rat) : Int := (wordDuration * sampleRate).ceil

/-- The reference conversion of a level in dB: round(dB × 100), saturated to s16 (R62). -/
def hostLevel (dB : Rat) : Half := BitVec.ofInt 16 (sat16 (nearest (dB * 100)))

/-- The phase increments of the source's fixture alphabet, an OPEN parameter (92 D7). -/
def fixtureInc (sampleRate : Rat) (k : Fin 8) : Word := hostInc (fixtureAlphabetHz k) sampleRate

/-- The slot an external front end makes of one analysis window, an OPEN parameter (R194, 92 D38). -/
def frontEndSlot (window : List Half) : Bank Half :=
  let l := frontEnd window
  ⟨l 0, l 1, l 2, l 3, l 4, l 5, l 6, l 7⟩

end Sys2Proof.Machine
end

