-- ==== Sys2Proof/Safety.lean ====
section
/-!
DEFINITION. What counts as a safe run, in the terms claims use: the invariant every step keeps, block by block,
what it is for a step not to stop, and what it is for one state to lead to another. Each clause names the rule it
comes from; R-numbers with no file are those of spec/.
-/

namespace Sys2Proof.Machine

open Sys2Proof.Config

/-- What R39, R41, R171, R177 and R180 promise of ENC: AMP is legal, at most one of ERR_CFG and ERR_BUF is set and
CFG_CAUSE goes with ERR_CFG, and while BUSY the checks START made still hold and the render is not over. -/
structure Enc.Inv (p : Params) (e : Enc) : Prop where
  amp_legal : e.amp.toNat ≤ 32767
  cause_iff : e.errCfg = true ↔ e.cfgCause ≠ .none
  one_error : ¬(e.errCfg = true ∧ e.errBuf = true)
  busy_no_error : e.busy = true → e.errCfg = false ∧ e.errBuf = false
  busy_spw : e.busy = true → e.spw ≠ 0
  busy_len : e.busy = true → e.len.toNat ≤ p.txDepth
  busy_inc : e.busy = true → incDistinct e.inc = true
  busy_span : e.busy = true → e.startOff.toNat + e.nsamp ≤ p.pcmDepth
  busy_pos : e.busy = true → e.pos.toNat < e.nsamp

/-- What R223 promises of DET. -/
def Det.Inv (d : Det) : Prop := d.matched = (d.matchL && d.matchH)

/-- What R56 to R59, R242, R248, R250 to R254, R265, R266 and R268 promise of ACC. -/
structure Acc.Inv (p : Params) (a : Acc) : Prop where
  slots_pos : a.slotsPerWord ≠ 0
  count_le : a.count.toNat ≤ p.rxDepth
  valid_len : a.frameValid = true → a.frameLen = a.count
  not_valid : a.frameValid = false → a.crcOk = false ∧ a.frameLen = 0
  hold : a.frameValid = true → a.frameActive = false
  idle : a.frameActive = false → a.nibPhase = false ∧ a.crc = 0
  no_frame : a.frameActive = false → a.frameValid = false → a.count = 0 ∧ a.ovf = false
  active_last : a.frameActive = true → a.lastValid = true
  no_high : a.nibPhase = false → a.hi = 0
  no_last : a.lastValid = false → a.lastNib = 0
  gap_run : a.runValid = false → a.runNib = 0 ∧ a.runCnt = a.gapCnt
  sym_run : a.runValid = true → a.gapCnt = 0 ∧ a.runCnt ≠ 0
  ovf_full : a.ovf = true → a.count.toNat = p.rxDepth
  ok_frame : a.crcOk = true → 1 ≤ a.count.toNat ∧ a.ovf = false

/-- Whether an offset is a byte of one of the three RAMs (R67, R92, R96). -/
def ramByte (p : Params) (a : Nat) : Prop := ∃ r : Ram, r.base ≤ a ∧ a < r.base + r.bytes p

/-- The bytes of the frame (R252, R260): the first RX_COUNT bytes of RX RAM have been written, and while the frame
is active the CRC register is their CRC-8. -/
def State.FrameBytes (s : State) : Prop :=
  ∃ bs, s.mem.writtenBytes Ram.rx.base s.acc.count.toNat = some bs ∧
    (s.acc.frameActive = true → s.acc.crc = crc8 bs)

/-- The invariant of MODEM. -/
structure State.Inv (s : State) : Prop where
  params_ok : s.params.ok = true
  mem_wf : s.mem.wf = true
  mem_ram : ∀ c ∈ s.mem, ramByte s.params c.1
  enc_inv : s.enc.Inv s.params
  det_inv : s.det.Inv
  acc_inv : s.acc.Inv s.params
  frame_bytes : s.FrameBytes

/-- The next step of `s` does not stop: it is neither a fault nor a refusal. -/
def State.Steps (s : State) : Prop := ∃ t, step s = .next t

/-- `t` follows from `s` in some number of steps. -/
inductive Leads : State → State → Prop where
  | refl (s : State) : Leads s s
  | tail {s t u : State} : Leads s t → step t = .next u → Leads s u

/-- `n` turns of the encoder engine, stopping where one does. -/
def engineTurns : Nat → State → StepResult
  | 0, s => .next s
  | n + 1, s =>
    match exec .engineStep s with
    | .next t => engineTurns n t
    | .fault r => .fault r
    | .refused r => .refused r

/-- The slots' Results handed to ACC one after another (R113, R241). -/
def accSteps (s : State) : List SlotResult → State
  | [] => s
  | r :: rs => accSteps (s.accStep r) rs

/-! ### Terms the claims use -/

/-- Executing `i` in `s` answers an OKAY read of a word with property `p`, and changes nothing else. -/
def ReadsWord (i : Instr) (s : State) (p : Word → Prop) : Prop :=
  ∃ d, exec i s = .next { s with reply := .read .okay d } ∧ p d

/-- Whether a format reads. -/
def readFormat : Format → Bool
  | .rd8 | .rd16 | .rd32 => true
  | .wr8 | .wr16 | .wr32 => false

/-- The number of bytes of a format (R120). -/
def formatBytes : Format → Nat
  | .rd8 | .wr8 => 1
  | .rd16 | .wr16 => 2
  | .rd32 | .wr32 => 4

/-- The ERROR reply to a transaction of a format: a read returns 0 with it (R91, R292). -/
def errorReply (f : Format) : Reply := if readFormat f then .read .error 0 else .write .error

/-- An access of `n` bytes at offset `i` of a RAM of `depth` bytes that is misaligned or reaches beyond the depth
(cases 3 and 4 of R292). -/
abbrev badRamAccess (i n depth : Nat) : Prop := i % n ≠ 0 ∨ depth < i + n

/-- The cases of R292 for an access of `n` bytes at offset `a`. -/
abbrev busErrorAt (p : Params) (reads : Bool) (a n : Nat) : Prop :=
  (a < 0x400 ∧ n ≠ 4) ∨
  (a < 0x400 ∧ n = 4 ∧ a % 4 ≠ 0) ∨
  (0x1000 ≤ a ∧ a ≤ 0x1FFF ∧ badRamAccess (a - 0x1000) n p.txDepth) ∨
  (0x2000 ≤ a ∧ a ≤ 0x2FFF ∧ badRamAccess (a - 0x2000) n p.rxDepth) ∨
  (0x100000 ≤ a ∧ a ≤ 0x1FFFFF ∧ badRamAccess (a - 0x100000) n (2 * p.pcmDepth)) ∨
  (0x2000 ≤ a ∧ a ≤ 0x2FFF ∧ reads = false) ∨
  ((0x400 ≤ a ∧ a < 0x1000) ∨ (0x3000 ≤ a ∧ a < 0x100000) ∨ 0x200000 ≤ a)

/-- The six cases in which a transaction gets a bus error, as R292 lists them. -/
abbrev BusErrorCase (p : Params) (t : Txn) : Prop :=
  busErrorAt p (readFormat t.fmt) t.addr.toNat (formatBytes t.fmt)

/-- TX RAM[0..LEN−1] holds the bytes `bs`, all of them written. -/
def State.Payload (s : State) (bs : List Byte) : Prop :=
  bs.length = s.enc.len.toNat ∧ ∀ k, (h : k < bs.length) → s.mem.lookup (0x1000 + k) = some bs[k]

/-- The frame F of a render of payload `bs` (R175). -/
def renderFrame (crcEn : Bool) (bs : List Byte) : List Byte := if crcEn then bs ++ [crc8 bs] else bs

/-- The symbol of word `w` of a frame, as a number (R175). -/
def frameSymbol (f : List Byte) (w : Nat) : Nat :=
  let b := (f.getD (w / 2) 0).toNat
  if w % 2 = 0 then b / 16 else b % 16

/-- The sample function of R181 on numbers: sample `j` of a render of the frame `f` with the registers `e`. -/
def waveform (c : SineChoice) (e : Enc) (f : List Byte) (j : Nat) : Int :=
  let n := j % e.spw.toNat
  let x := frameSymbol f (j / e.spw.toNat)
  sine c (BitVec.ofNat 32 (n * (e.inc.get (Fin.ofNat 8 (x / 4))).toNat)) (e.amp.toNat / 2) +
    sine c (BitVec.ofNat 32 (n * (e.inc.get (Fin.ofNat 8 (4 + x % 4))).toNat)) (e.amp.toNat / 2)

/-- Sample `i` of PCM RAM: byte 2i low, byte 2i + 1 high (R95). -/
def State.pcmSample (s : State) (i : Nat) : Half := s.readByte (0x100000 + 2 * i + 1) ++ s.readByte (0x100000 + 2 * i)

/-- The slots of a byte string, one per symbol, high nibble first (R130). -/
def symbolSlots (bs : List Byte) : List SlotResult :=
  bs.flatMap fun b => [.sym (BitVec.ofNat 4 (b.toNat / 16)), .sym (BitVec.ofNat 4 (b.toNat % 16))]

/-- The nibbles accepted into the current frame: two for each byte stored and the one held. -/
def Acc.nibbles (a : Acc) : Nat := 2 * a.count.toNat + a.nibPhase.toNat

/-- ACC right after a reset or an acknowledged close: no run, no frame, nothing held (R64, R266, R268). -/
def Acc.fresh (a : Acc) : Prop :=
  a.runValid = false ∧ a.runNib = 0 ∧ a.runCnt = 0 ∧ a.lastValid = false ∧ a.lastNib = 0 ∧ a.gapCnt = 0 ∧
  a.nibPhase = false ∧ a.hi = 0 ∧ a.frameActive = false ∧ a.crc = 0 ∧ a.count = 0 ∧ a.frameValid = false ∧
  a.crcOk = false ∧ a.ovf = false ∧ a.frameLen = 0

/-- Two states agree on everything but the reply, the RAMs and the draw counter, the encoder and IRQ_STATUS. -/
def SameOutsideEncoder (s t : State) : Prop :=
  t.irqEnable = s.irqEnable ∧ t.det = s.det ∧ t.acc = s.acc ∧ t.rst = s.rst ∧ t.params = s.params ∧
  t.schedule = s.schedule ∧ t.powerCycles = s.powerCycles

end Sys2Proof.Machine
end

