-- ==== Sys2Proof/Certificates/Slice0/Obligations.lean ====
section
/-!
DEFINITION. The statements for the provers. R-numbers are rules of spec/. A statement about an instruction's result
gives the whole next state, so it says what changes, what does not, and that the instruction completes.
-/

open Sys2Proof Sys2Proof.Machine Sys2Proof.Config

/-! ### Encoding -/

/-- R122, R123: decoding the encoding of a well-formed instruction gives it back, and only the internal operations
have no encoding (R129). -/
def Obligations.DecodeInvertsEncode : Prop :=
  (∀ (i : Instr) (t : Txn), i.wellFormed = true → encode i = some t → decode t = i) ∧
  ∀ i : Instr, encode i = none ↔ i.internal = true

/-- R120 to R123: encoding the decoded instruction gives the transaction back, for every transaction whose ignored
data bits are 0. No address bit and no carried data bit is dropped. -/
def Obligations.EncodeInvertsDecode : Prop :=
  ∀ t : Txn, t.canonical = true → encode (decode t) = some t

/-- R122: decoding takes the first row of the opcode map that matches, in table order; a row matches when the format
is equal and (TW AND mask) = match; and every transaction has such a row. -/
def Obligations.FirstMatchingRowDecides : Prop :=
  ∀ t : Txn, ∃ pre r post, opcodeTable = pre ++ r :: post ∧
    (r.fmt = t.fmt ∧ t.tw &&& (r.addrMask ++ r.dataMask) = r.addrMatch ++ r.dataMatch) ∧
    (∀ q ∈ pre, ¬(q.fmt = t.fmt ∧ t.tw &&& (q.addrMask ++ q.dataMask) = q.addrMatch ++ q.dataMatch)) ∧
    decode t = r.build t.addr t.data

/-- R122, R125, R129: every decoded instruction is well formed and is no internal operation. -/
def Obligations.DecodedIsWellFormed : Prop :=
  ∀ t : Txn, (decode t).wellFormed = true ∧ (decode t).internal = false

/-- R125 and the opcode map: a few transaction words written out from the spec. -/
def Obligations.SpecWordsDecode : Prop :=
  decode ⟨.rd32, 0x000, 0⟩ = .rdId ∧
  decode ⟨.wr32, 0x004, 1⟩ = .srst 1 ∧
  decode ⟨.wr32, 0x100, 3⟩ = .encStart 3 ∧
  decode ⟨.wr32, 0x13C, 0x08000000⟩ = .wrEncInc 7 0x08000000 ∧
  decode ⟨.wr32, 0x200, 1⟩ = .detPush 1 ∧
  decode ⟨.wr32, 0x300, 3⟩ = .rxAckFlush 3 ∧
  decode ⟨.rd16, 0x118, 0⟩ = .busErrNarrowRd16 0x118 ∧
  decode ⟨.rd32, 0x3FC, 0⟩ = .rdRsvd 0xFF ∧
  decode ⟨.wr8, 0x1000, 0xA5⟩ = .wrTx8 0 0xA5 ∧
  decode ⟨.rd16, 0x2000, 0⟩ = .rdRx16 0 ∧
  decode ⟨.wr32, 0x100014, 0⟩ = .wrPcm32 0x14 0 ∧
  decode ⟨.rd32, 0x3000, 0⟩ = .busErrUnmappedRd32 0x3000

/-! ### The global order -/

/-- R90, R104: with `rst` deasserted, a step whose next event is a bus transaction runs the well-formed instruction
it decodes to, in the state with that event taken off the schedule. -/
def Obligations.StepRunsTransaction : Prop :=
  ∀ (s : State) (t : Txn) (rest : List Event), s.rst = false → s.schedule = .bus t :: rest →
    step s = exec (decode t) { s with schedule := rest } ∧ (decode t).wellFormed = true

/-- R105, R180, R308: an engine turn runs ENGINE_STEP; with nothing scheduled a busy engine takes its next step (the
model's reading of weak fairness, log entry 8) and an idle MODEM waits. -/
def Obligations.StepRunsEngine : Prop :=
  ∀ s : State, s.rst = false →
    (∀ rest, s.schedule = .engineTurn :: rest → step s = exec .engineStep { s with schedule := rest }) ∧
    (s.schedule = [] → s.enc.busy = true → step s = exec .engineStep s) ∧
    (s.schedule = [] → s.enc.busy = false → step s = .next s)

/-- R330, R332, R333: the assertion of `rst` changes nothing else (log entry 12); while it is asserted a transaction changes nothing but its reply, which is the platform's (a
free value, log entry 4), and the engine takes no step; the deassertion leaves every register at its reset value and
nothing in any RAM written. -/
def Obligations.ResetInputHolds : Prop :=
  (∀ (s : State) (rest : List Event), s.schedule = .assertReset :: rest →
    step s = .next { s with schedule := rest, rst := true }) ∧
  ∀ (s : State) (rest : List Event), s.rst = true →
    (∀ t, s.schedule = .bus t :: rest →
      ∃ r, step s = .next { s with schedule := rest, reply := r, draws := s.draws + 1 }) ∧
    (s.schedule = .engineTurn :: rest → step s = .next { s with schedule := rest }) ∧
    (s.schedule = [] → step s = .next s) ∧
    (s.schedule = .releaseReset :: rest →
      step s = .next { State.reset with
        params := s.params, reply := s.reply, schedule := rest, draws := s.draws
        powerCycles := s.powerCycles + 1 })

/-! ### The bus -/

/-- R101: a read has no side effects: of every register and every RAM location, of any width, it changes nothing but
the reply, and the same read again gives the same reply. -/
def Obligations.ReadsHaveNoSideEffects : Prop :=
  ∀ (s : State) (t : Txn), readFormat t.fmt = true →
    ∃ u rsp d, u = { s with reply := .read rsp d } ∧ exec (decode t) s = .next u ∧ exec (decode t) u = .next u

/-- R292: a transaction gets the ERROR response, with read data 0 and no change to any state, in exactly the cases
R292 lists; in every other case it completes with OKAY. -/
def Obligations.BusErrorExactlyInSixCases : Prop :=
  ∀ (s : State) (t : Txn),
    (BusErrorCase s.params t → exec (decode t) s = .next { s with reply := errorReply t.fmt }) ∧
    (¬BusErrorCase s.params t → ∃ u, exec (decode t) s = .next u ∧
      (u.reply = .write .okay ∨ ∃ d, u.reply = .read .okay d))

/-- R94, R163, R164: the register accesses that are narrow or misaligned, the accesses of no region and any write to
the RX window always complete with the bus error, which changes nothing. -/
def Obligations.IllegalAccessesGetBusError : Prop :=
  ∀ s : State,
    (∀ i, (∃ r, i = .busErrMisalignedRd32At1 r) ∨ (∃ r, i = .busErrMisalignedRd32At2 r) ∨
        (∃ r, i = .busErrMisalignedRd32At3 r) ∨ (∃ a, i = .busErrNarrowRd8 a) ∨ (∃ a, i = .busErrNarrowRd16 a) ∨
        (∃ a, i = .busErrUnmappedRd8 a) ∨ (∃ a, i = .busErrUnmappedRd16 a) ∨ (∃ a, i = .busErrUnmappedRd32 a) →
      exec i s = .next { s with reply := .read .error 0 }) ∧
    (∀ i, (∃ r d, i = .busErrMisalignedWr32At1 r d) ∨ (∃ r d, i = .busErrMisalignedWr32At2 r d) ∨
        (∃ r d, i = .busErrMisalignedWr32At3 r d) ∨ (∃ a d, i = .busErrNarrowWr8 a d) ∨
        (∃ a d, i = .busErrNarrowWr16 a d) ∨ (∃ a d, i = .busErrUnmappedWr8 a d) ∨
        (∃ a d, i = .busErrUnmappedWr16 a d) ∨ (∃ a d, i = .busErrUnmappedWr32 a d) ∨
        (∃ j d, i = .wrRx8 j d) ∨ (∃ j d, i = .wrRx16 j d) ∨ (∃ j d, i = .wrRx32 j d) →
      exec i s = .next { s with reply := .write .error })

/-! ### Register reads -/

/-- R31 to R37, R63: what ID, CTRL, IRQ_STATUS, IRQ_ENABLE, the depth registers and a reserved offset read as, every
bit of the word. -/
def Obligations.SystemRegistersRead : Prop :=
  ∀ s : State, s.params.ok = true →
    ReadsWord .rdId s (fun d => d = 0x4D4F4445) ∧
    ReadsWord .rdCtrl s (fun d => d = 0) ∧
    ReadsWord .rdIrqStatus s (fun d => d.toNat = s.irqStatus.toNat) ∧
    ReadsWord .rdIrqEnable s (fun d => d.toNat = s.irqEnable.toNat) ∧
    ReadsWord .rdTxDepthR s (fun d => d.toNat = s.params.txDepth) ∧
    ReadsWord .rdRxDepthR s (fun d => d.toNat = s.params.rxDepth) ∧
    ReadsWord .rdPcmDepthR s (fun d => d.toNat = s.params.pcmDepth) ∧
    ∀ r, ReadsWord (.rdRsvd r) s (fun d => d = 0)

/-- R38 to R46, R124, R150: what the encoder registers read as, every bit of the word. -/
def Obligations.EncoderRegistersRead : Prop :=
  ∀ s : State,
    ReadsWord .rdEncCtrl s (fun d => d.toNat = if s.enc.crcEn then 2 else 0) ∧
    ReadsWord .rdEncStatus s (fun d =>
      d.getLsbD 0 = s.enc.busy ∧ d.getLsbD 1 = s.enc.errCfg ∧ d.getLsbD 2 = s.enc.errBuf ∧
      d.getLsbD 3 = s.enc.werr ∧
      (d.extractLsb' 4 3).toNat =
        (match s.enc.cfgCause with | .none => 0 | .spwZero => 1 | .lenTooLong => 2 | .incNotDistinct => 3) ∧
      d.extractLsb' 7 25 = 0) ∧
    ReadsWord .rdEncSpw s (fun d => d.toNat = s.enc.spw.toNat) ∧
    ReadsWord .rdEncAmp s (fun d => d.toNat = s.enc.amp.toNat) ∧
    ReadsWord .rdEncStartOff s (fun d => d = s.enc.startOff) ∧
    ReadsWord .rdEncLen s (fun d => d.toNat = s.enc.len.toNat) ∧
    ReadsWord .rdEncNsamp s (fun d =>
      d.toNat = min (s.enc.spw.toNat * 2 * (s.enc.len.toNat + if s.enc.crcEn then 1 else 0)) 0xFFFFFFFF) ∧
    ReadsWord .rdEncPos s (fun d => d = s.enc.pos) ∧
    ∀ k, ReadsWord (.rdEncInc k) s (fun d => d = s.enc.inc.get k)

/-- R47 to R54, R124, R150: what the detector registers read as, every bit of the word; the signed fields as their
16-bit pattern, not sign-extended. -/
def Obligations.DetectorRegistersRead : Prop :=
  ∀ s : State,
    ReadsWord .rdDetPush s (fun d => d = 0) ∧
    ReadsWord .rdDetThresh s (fun d => d.toNat = s.det.thresh.toNat) ∧
    ReadsWord .rdDetFloor s (fun d => d.toNat = s.det.floor.toNat) ∧
    ReadsWord .rdDetResult s (fun d =>
      d.extractLsb' 0 4 = s.det.cand ∧ d.extractLsb' 4 4 = 0 ∧ d.getLsbD 8 = s.det.matched ∧
      d.getLsbD 9 = s.det.matchL ∧ d.getLsbD 10 = s.det.matchH ∧ d.extractLsb' 11 21 = 0) ∧
    ReadsWord .rdDetDom s (fun d => d.extractLsb' 0 16 = s.det.domL ∧ d.extractLsb' 16 16 = s.det.domH) ∧
    ReadsWord .rdDetSlots s (fun d => d = s.det.slots) ∧
    (∀ i, ReadsWord (.rdDetLevel i) s (fun d => d.toNat = (s.det.level.get i).toNat)) ∧
    ∀ i, ReadsWord (.rdDetOffset i) s (fun d => d.toNat = (s.det.offset.get i).toNat)

/-- R55 to R61, R124, R150: what the accumulator registers read as, every bit of the word; CRC_OK and RX_FRAME_LEN
read 0 while FRAME_VALID is 0. -/
def Obligations.AccumulatorRegistersRead : Prop :=
  ∀ s : State,
    ReadsWord .rdRxCtrl s (fun d => d = 0) ∧
    ReadsWord .rdRxCfg s (fun d =>
      d.getLsbD 0 = s.acc.crcEn ∧ (d.getLsbD 1 = true ↔ s.acc.mode = .change) ∧ d.extractLsb' 2 6 = 0 ∧
      d.extractLsb' 8 8 = s.acc.slotsPerWord ∧ d.extractLsb' 16 16 = s.acc.gapSlots) ∧
    ReadsWord .rdRxStatus s (fun d =>
      d.getLsbD 0 = s.acc.frameValid ∧ d.getLsbD 1 = (s.acc.frameValid && s.acc.crcOk) ∧
      d.getLsbD 2 = s.acc.nibPhase ∧ d.getLsbD 3 = s.acc.frameActive ∧ d.getLsbD 4 = s.acc.ovf ∧
      d.getLsbD 5 = s.acc.lost ∧ d.extractLsb' 6 26 = 0) ∧
    ReadsWord .rdRxCount s (fun d => d.toNat = s.acc.count.toNat) ∧
    ReadsWord .rdRxFrameLen s (fun d => d.toNat = if s.acc.frameValid then s.acc.frameLen.toNat else 0) ∧
    ReadsWord .rdRxDebug s (fun d =>
      d.extractLsb' 0 4 = s.acc.runNib ∧ d.getLsbD 4 = s.acc.runValid ∧ d.extractLsb' 5 3 = 0 ∧
      d.extractLsb' 8 4 = s.acc.lastNib ∧ d.getLsbD 12 = s.acc.lastValid ∧ d.extractLsb' 13 3 = 0 ∧
      d.extractLsb' 16 4 = s.acc.hi ∧ d.extractLsb' 20 4 = 0 ∧ d.extractLsb' 24 8 = s.acc.crc) ∧
    ReadsWord .rdRxRuncnt s (fun d => d.extractLsb' 0 16 = s.acc.runCnt ∧ d.extractLsb' 16 16 = s.acc.gapCnt)

/-! ### Register writes -/

/-- R152, R153, R154, R222, R270: a write of a read-only register, of a reserved offset, or of a command register with
no selecting bit gets OKAY and changes nothing; it sets no WERR even while BUSY. -/
def Obligations.IgnoredWritesChangeNothing : Prop :=
  ∀ (s : State) (d : Word) (i : Instr),
    i ∈ ([.wrId d, .wrTxDepthR d, .wrRxDepthR d, .wrPcmDepthR d, .wrEncNsamp d, .wrEncPos d, .wrDetResult d,
      .wrDetDom d, .wrDetSlots d, .wrRxCount d, .wrRxFrameLen d, .wrRxDebug d, .wrRxRuncnt d, .wrCtrlNop d,
      .wrDetPushNop d, .wrRxCtrlNop d] : List Instr) ∨ (∃ r, i = .wrRsvd r d) →
    exec i s = .next { s with reply := .write .okay }

/-- R48, R49, R53, R54, R56, R151: the unlocked RW registers store the legalised field, BUSY or not, and nothing else
changes; S = 0 stores 1. -/
def Obligations.UnlockedWritesStoreFields : Prop :=
  ∀ (s : State) (d : Word),
    exec (.wrDetThresh d) s =
      .next { s with det := { s.det with thresh := d.extractLsb' 0 16 }, reply := .write .okay } ∧
    exec (.wrDetFloor d) s =
      .next { s with det := { s.det with floor := d.extractLsb' 0 16 }, reply := .write .okay } ∧
    exec (.wrRxCfg d) s = .next { s with
      acc := { s.acc with
        crcEn := d.getLsbD 0
        mode := if d.getLsbD 1 then .change else .run
        slotsPerWord := if d.extractLsb' 8 8 = 0 then 1 else d.extractLsb' 8 8
        gapSlots := d.extractLsb' 16 16 }
      reply := .write .okay }

/-- R53, R54, R112, R151: a write of LEVEL[i] or OFFSET[i] stores data[15:0] in that one register; the other seven
and everything else stay. -/
def Obligations.IndexedDetectorWrites : Prop :=
  ∀ (s : State) (d : Word) (i : Fin 8),
    (∃ b : Bank Half, exec (.wrDetLevel i d) s =
        .next { s with det := { s.det with level := b }, reply := .write .okay } ∧
      b.get i = d.extractLsb' 0 16 ∧ ∀ j, j ≠ i → b.get j = s.det.level.get j) ∧
    (∃ b : Bank Half, exec (.wrDetOffset i d) s =
        .next { s with det := { s.det with offset := b }, reply := .write .okay } ∧
      b.get i = d.extractLsb' 0 16 ∧ ∀ j, j ≠ i → b.get j = s.det.offset.get j)

/-- R155 to R158: the write-1-to-clear registers clear exactly the bits written 1, and IRQ_ENABLE stores its five
bits; nothing else changes. -/
def Obligations.FlagRegisterWrites : Prop :=
  ∀ (s : State) (d : Word),
    (∃ v : BitVec 5, exec (.wrIrqStatus d) s = .next { s with irqStatus := v, reply := .write .okay } ∧
      ∀ b, b < 5 → v.getLsbD b = (s.irqStatus.getLsbD b && !d.getLsbD b)) ∧
    (∃ v : BitVec 5, exec (.wrIrqEnable d) s = .next { s with irqEnable := v, reply := .write .okay } ∧
      ∀ b, b < 5 → v.getLsbD b = d.getLsbD b) ∧
    exec (.wrEncStatus d) s = .next { s with
      enc := { s.enc with werr := if d.getLsbD 3 then false else s.enc.werr }, reply := .write .okay } ∧
    exec (.wrRxStatus d) s = .next { s with
      acc := { s.acc with lost := if d.getLsbD 5 then false else s.acc.lost }, reply := .write .okay }

/-- R40 to R43, R46, R159: with the engine idle, the encoder configuration writes store their legalised field and
nothing else changes; AMP stores min(d[15:0], 32767). -/
def Obligations.EncoderConfigWrites : Prop :=
  ∀ (s : State) (d : Word), s.enc.busy = false →
    exec (.wrEncCtrl d) s =
      .next { s with enc := { s.enc with crcEn := d.getLsbD 1 }, reply := .write .okay } ∧
    exec (.wrEncSpw d) s =
      .next { s with enc := { s.enc with spw := d.extractLsb' 0 24 }, reply := .write .okay } ∧
    exec (.wrEncAmp d) s = .next { s with
      enc := { s.enc with amp := BitVec.ofNat 16 (min (d.toNat % 65536) 32767) }, reply := .write .okay } ∧
    exec (.wrEncStartOff d) s = .next { s with enc := { s.enc with startOff := d }, reply := .write .okay } ∧
    exec (.wrEncLen d) s =
      .next { s with enc := { s.enc with len := d.extractLsb' 0 16 }, reply := .write .okay } ∧
    ∀ k : Fin 8, ∃ b : Bank Word,
      exec (.wrEncInc k d) s = .next { s with enc := { s.enc with inc := b }, reply := .write .okay } ∧
      b.get k = d ∧ ∀ j, j ≠ k → b.get j = s.enc.inc.get j

/-- R340: while BUSY, every write to ENC_CTRL (START or plain), ENC_SPW, ENC_AMP, ENC_START_OFF, ENC_LEN, ENC_INC and
every write inside TX RAM or PCM RAM is ignored and sets WERR, with an OKAY response. -/
def Obligations.LockedWritesIgnoredWhileBusy : Prop :=
  ∀ (s : State) (t : Txn), s.enc.busy = true → readFormat t.fmt = false → ¬BusErrorCase s.params t →
    (t.addr.toNat = 0x100 ∨ t.addr.toNat = 0x108 ∨ t.addr.toNat = 0x10C ∨ t.addr.toNat = 0x110 ∨
      t.addr.toNat = 0x114 ∨ (0x120 ≤ t.addr.toNat ∧ t.addr.toNat ≤ 0x13C) ∨
      (0x1000 ≤ t.addr.toNat ∧ t.addr.toNat ≤ 0x1FFF) ∨ 0x100000 ≤ t.addr.toNat) →
    exec (decode t) s = .next { s with enc := { s.enc with werr := true }, reply := .write .okay }

/-- R331, R332: the soft reset puts every register and internal state element at its reset value, BUSY or not; the
three RAMs keep their contents. -/
def Obligations.SoftResetValues : Prop :=
  ∀ (s : State) (d : Word), exec (.srst d) s = .next { s with
    irqStatus := 0
    irqEnable := 0
    enc :=
      { crcEn := true, busy := false, errCfg := false, errBuf := false, werr := false, cfgCause := .none
        spw := 0, amp := 0, startOff := 0, len := 0, pos := 0, inc := ⟨0, 0, 0, 0, 0, 0, 0, 0⟩ }
    det :=
      { thresh := 0x12C, floor := 0x8000, cand := 0, matched := false, matchL := false, matchH := false
        domL := 0, domH := 0, slots := 0, level := ⟨0, 0, 0, 0, 0, 0, 0, 0⟩, offset := ⟨0, 0, 0, 0, 0, 0, 0, 0⟩ }
    acc :=
      { crcEn := true, mode := .run, slotsPerWord := 1, gapSlots := 0, runValid := false, runNib := 0, runCnt := 0
        lastValid := false, lastNib := 0, gapCnt := 0, nibPhase := false, hi := 0, frameActive := false, crc := 0
        count := 0, frameValid := false, crcOk := false, ovf := false, lost := false, frameLen := 0 }
    reply := .write .okay }

/-! ### RAM accesses -/

/-- R96, R97, R99, R160: a RAM read that is aligned and inside the depth returns its bytes little-endian, the upper
bits 0, and changes nothing but the reply; any other gets the bus error. -/
def Obligations.RamReadsLittleEndian : Prop :=
  ∀ (s : State) (i : Instr) (base off n depth : Nat),
    (∃ j, i = .rdTx8 j ∧ base = 0x1000 ∧ off = j.toNat ∧ n = 1 ∧ depth = s.params.txDepth) ∨
    (∃ j, i = .rdTx16 j ∧ base = 0x1000 ∧ off = j.toNat ∧ n = 2 ∧ depth = s.params.txDepth) ∨
    (∃ j, i = .rdTx32 j ∧ base = 0x1000 ∧ off = j.toNat ∧ n = 4 ∧ depth = s.params.txDepth) ∨
    (∃ j, i = .rdRx8 j ∧ base = 0x2000 ∧ off = j.toNat ∧ n = 1 ∧ depth = s.params.rxDepth) ∨
    (∃ j, i = .rdRx16 j ∧ base = 0x2000 ∧ off = j.toNat ∧ n = 2 ∧ depth = s.params.rxDepth) ∨
    (∃ j, i = .rdRx32 j ∧ base = 0x2000 ∧ off = j.toNat ∧ n = 4 ∧ depth = s.params.rxDepth) ∨
    (∃ j, i = .rdPcm8 j ∧ base = 0x100000 ∧ off = j.toNat ∧ n = 1 ∧ depth = 2 * s.params.pcmDepth) ∨
    (∃ j, i = .rdPcm16 j ∧ base = 0x100000 ∧ off = j.toNat ∧ n = 2 ∧ depth = 2 * s.params.pcmDepth) ∨
    (∃ j, i = .rdPcm32 j ∧ base = 0x100000 ∧ off = j.toNat ∧ n = 4 ∧ depth = 2 * s.params.pcmDepth) →
    if off % n = 0 ∧ off + n ≤ depth then
      ReadsWord i s fun d => d.toNat < 256 ^ n ∧
        ∀ k, k < n → d.extractLsb' (8 * k) 8 = s.readByte (base + off + k)
    else exec i s = .next { s with reply := .read .error 0 }

/-- R96, R97, R99, R161, R162: with the engine idle, a TX or PCM RAM write that is aligned and inside the depth sets
exactly its own bytes, byte k of the value at offset + k, and nothing else; any other gets the bus error, BUSY or
not. -/
def Obligations.RamWritesSetTheirBytes : Prop :=
  ∀ (s : State) (i : Instr) (base off n depth : Nat) (v : Word),
    (∃ j d, i = .wrTx8 j d ∧ base = 0x1000 ∧ off = j.toNat ∧ n = 1 ∧ depth = s.params.txDepth ∧
      v = d.setWidth 32) ∨
    (∃ j d, i = .wrTx16 j d ∧ base = 0x1000 ∧ off = j.toNat ∧ n = 2 ∧ depth = s.params.txDepth ∧
      v = d.setWidth 32) ∨
    (∃ j d, i = .wrTx32 j d ∧ base = 0x1000 ∧ off = j.toNat ∧ n = 4 ∧ depth = s.params.txDepth ∧ v = d) ∨
    (∃ j d, i = .wrPcm8 j d ∧ base = 0x100000 ∧ off = j.toNat ∧ n = 1 ∧ depth = 2 * s.params.pcmDepth ∧
      v = d.setWidth 32) ∨
    (∃ j d, i = .wrPcm16 j d ∧ base = 0x100000 ∧ off = j.toNat ∧ n = 2 ∧ depth = 2 * s.params.pcmDepth ∧
      v = d.setWidth 32) ∨
    (∃ j d, i = .wrPcm32 j d ∧ base = 0x100000 ∧ off = j.toNat ∧ n = 4 ∧ depth = 2 * s.params.pcmDepth ∧ v = d) →
    if off % n = 0 ∧ off + n ≤ depth then
      s.enc.busy = false →
        ∃ m, exec i s = .next { s with mem := m, reply := .write .okay } ∧
          (∀ k, k < n → State.readByte { s with mem := m } (base + off + k) = v.extractLsb' (8 * k) 8) ∧
          ∀ a, a < base + off ∨ base + off + n ≤ a → State.readByte { s with mem := m } a = s.readByte a
    else exec i s = .next { s with reply := .write .error }

/-- R97: a 32-bit read of PCM RAM at byte offset 4m returns sample 2m in bits [15:0] and sample 2m + 1 in bits
[31:16]. -/
def Obligations.PcmWordHoldsTwoSamples : Prop :=
  ∀ (s : State) (j : BitVec 20) (m : Nat), j.toNat = 4 * m → 4 * m + 4 ≤ 2 * s.params.pcmDepth →
    ReadsWord (.rdPcm32 j) s fun d =>
      d.extractLsb' 0 16 = s.pcmSample (2 * m) ∧ d.extractLsb' 16 16 = s.pcmSample (2 * m + 1)

/-! ### The encoder -/

/-- R178: ENC_START, its pseudocode in order. -/
def Obligations.EncStartChecksInOrder : Prop :=
  ∀ (s : State) (d : Word),
    let e := { s.enc with crcEn := d.getLsbD 1 }
    let nsamp := e.spw.toNat * 2 * (e.len.toNat + if d.getLsbD 1 then 1 else 0)
    exec (.encStart d) s = .next (
      if s.enc.busy then { s with enc := { s.enc with werr := true }, reply := .write .okay }
      else if e.spw = 0 then
        { s with
          enc := { e with cfgCause := .spwZero, errCfg := true, errBuf := false }
          irqStatus := s.irqStatus ||| 0b00010, reply := .write .okay }
      else if s.params.txDepth < e.len.toNat then
        { s with
          enc := { e with cfgCause := .lenTooLong, errCfg := true, errBuf := false }
          irqStatus := s.irqStatus ||| 0b00010, reply := .write .okay }
      else if ∃ j k : Fin 8, j ≠ k ∧ e.inc.get j = e.inc.get k then
        { s with
          enc := { e with cfgCause := .incNotDistinct, errCfg := true, errBuf := false }
          irqStatus := s.irqStatus ||| 0b00010, reply := .write .okay }
      else if s.params.pcmDepth < e.startOff.toNat + nsamp then
        { s with
          enc := { e with cfgCause := .none, errCfg := false, errBuf := true }
          irqStatus := s.irqStatus ||| 0b00010, reply := .write .okay }
      else if nsamp = 0 then
        { s with
          enc := { e with cfgCause := .none, errCfg := false, errBuf := false, pos := 0 }
          irqStatus := s.irqStatus ||| 0b00001, reply := .write .okay }
      else
        { s with
          enc := { e with cfgCause := .none, errCfg := false, errBuf := false, pos := 0, busy := true }
          reply := .write .okay })

/-- R175, R181, R182: ENGINE_STEP with a written payload writes the sample of R181 at START_OFF + ENC_POS, low byte
first, counts it, and with the last sample clears BUSY and sets ENC_DONE; no other byte and no other state
changes. -/
def Obligations.EngineStepWritesSample : Prop :=
  ∀ (s : State) (bs : List Byte), s.enc.busy = true → s.Payload bs →
    s.enc.startOff.toNat + s.enc.pos.toNat < s.params.pcmDepth →
    s.enc.pos.toNat / s.enc.spw.toNat / 2 < (renderFrame s.enc.crcEn bs).length →
    let j := s.enc.pos.toNat
    let last := (s.enc.pos + 1).toNat = s.enc.spw.toNat * 2 * (s.enc.len.toNat + if s.enc.crcEn then 1 else 0)
    ∃ m, exec .engineStep s = .next { s with
        mem := m
        enc := { s.enc with pos := s.enc.pos + 1, busy := !decide last }
        irqStatus := if last then s.irqStatus ||| 0b00001 else s.irqStatus } ∧
      State.pcmSample { s with mem := m } (s.enc.startOff.toNat + j) =
        BitVec.ofInt 16 (waveform s.params.sine s.enc (renderFrame s.enc.crcEn bs) j) ∧
      ∀ a, a < 0x100000 + 2 * (s.enc.startOff.toNat + j) ∨ 0x100000 + 2 * (s.enc.startOff.toNat + j) + 2 ≤ a →
        m.lookup a = s.mem.lookup a

/-- R103, U2, R182: a sample whose symbol is computed from a TX byte no write has set is a free value; ENGINE_STEP
counts it and ends the render as ever, and no other byte and no other state but the draw counter changes. That the render is not refused is the model's choice (log entry 2). -/
def Obligations.EngineStepDrawsSample : Prop :=
  ∀ s : State, s.enc.busy = true → s.enc.startOff.toNat + s.enc.pos.toNat < s.params.pcmDepth →
    (let b := s.enc.pos.toNat / s.enc.spw.toNat / 2
     (b < s.enc.len.toNat ∧ s.mem.lookup (0x1000 + b) = none) ∨
      (s.enc.len.toNat ≤ b ∧ ∃ k, k < s.enc.len.toNat ∧ s.mem.lookup (0x1000 + k) = none)) →
    let j := s.enc.pos.toNat
    let last := (s.enc.pos + 1).toNat = s.enc.spw.toNat * 2 * (s.enc.len.toNat + if s.enc.crcEn then 1 else 0)
    ∃ m, exec .engineStep s = .next { s with
        mem := m, draws := s.draws + 1
        enc := { s.enc with pos := s.enc.pos + 1, busy := !decide last }
        irqStatus := if last then s.irqStatus ||| 0b00001 else s.irqStatus } ∧
      State.pcmSample { s with mem := m } (s.enc.startOff.toNat + j) = drawnSample s.draws ∧
      ∀ a, a < 0x100000 + 2 * (s.enc.startOff.toNat + j) ∨ 0x100000 + 2 * (s.enc.startOff.toNat + j) + 2 ≤ a →
        m.lookup a = s.mem.lookup a

/-- R182: ENGINE_STEP is enabled exactly when BUSY = 1: a turn of an idle engine changes nothing (log entry 8). A
sample outside PCM RAM, which no run reaches, stops the machine (log entry 7). -/
def Obligations.EngineStepIdleOrOutside : Prop :=
  ∀ s : State,
    (s.enc.busy = false → exec .engineStep s = .next s) ∧
    (s.enc.busy = true → s.params.pcmDepth ≤ s.enc.startOff.toNat + s.enc.pos.toNat →
      exec .engineStep s = .fault .engineOutsidePcm)

/-- R187: the six laws of SINE, for every choice of SINE the model admits. Law 6, determinism, is that SINE is a
function. -/
def Obligations.SineLaws : Prop :=
  ∀ (c : SineChoice) (p : Word) (a : Nat), a ≤ 16383 →
    (-(a : Int) ≤ sine c p a ∧ sine c p a ≤ a) ∧
    (sine c 0 a = 0 ∧ sine c 0x40000000 a = a ∧ sine c 0x80000000 a = 0 ∧ sine c 0xC0000000 a = -(a : Int)) ∧
    sine c (-p) a = -sine c p a ∧
    sine c (p + 0x80000000) a = -sine c p a ∧
    sine c p 0 = 0 ∧
    ∀ q b, q = p → b = a → sine c q b = sine c p a

/-- R186: the reference SINE is exact at the quadrant points and elsewhere the integer nearest to a·sin(2πp/2^32): it
is never further from it than 1/2 and the model's fixed-point error, below 2^-40 (log entry 3). -/
def Obligations.ReferenceSineRoundsRealSine : Prop :=
  ∀ (p : Word) (a : Nat), a ≤ 16383 →
    |((sine .reference p a : Int) : ℝ) - a * Real.sin (2 * Real.pi * p.toNat / 2 ^ 32)| ≤ 1 / 2 + 1 / 2 ^ 40

/-- R184: every rendered sample satisfies |v| ≤ 2·(AMP div 2) ≤ AMP ≤ 32767, and with AMP odd at most AMP − 1, so the
16-bit pattern stored reads back as v. -/
def Obligations.PeakStaysWithinAmp : Prop :=
  ∀ (c : SineChoice) (e : Enc) (f : List Byte) (j : Nat), e.amp.toNat ≤ 32767 →
    |waveform c e f j| ≤ 2 * (e.amp.toNat / 2 : Nat) ∧ 2 * (e.amp.toNat / 2) ≤ e.amp.toNat ∧
    (e.amp.toNat % 2 = 1 → |waveform c e f j| ≤ (e.amp.toNat : Int) - 1) ∧
    (BitVec.ofInt 16 (waveform c e f j)).toInt = waveform c e f j

/-- R180, R182, R185, R190: from any state of the invariant with a render under way, the engine finishes it in exactly
NSAMP − ENC_POS steps, BUSY stays 1 and ENC_POS counts until the last, ENC_DONE is set, no byte outside the span
changes and no other block does. -/
def Obligations.RenderFinishesInNsampSteps : Prop :=
  ∀ s : State, s.Inv → s.enc.busy = true →
    (∀ k, k < s.enc.nsamp - s.enc.pos.toNat →
      ∃ u, engineTurns k s = .next u ∧ u.enc.busy = true ∧ u.enc.pos.toNat = s.enc.pos.toNat + k) ∧
    ∃ t, engineTurns (s.enc.nsamp - s.enc.pos.toNat) s = .next t ∧
      t.enc = { s.enc with busy := false, pos := BitVec.ofNat 32 s.enc.nsamp } ∧
      t.irqStatus = s.irqStatus ||| 0b00001 ∧ SameOutsideEncoder s t ∧ t.reply = s.reply ∧
      ∀ a, a < 0x100000 + 2 * (s.enc.startOff.toNat + s.enc.pos.toNat) ∨
          0x100000 + 2 * (s.enc.startOff.toNat + s.enc.nsamp) ≤ a →
        t.mem.lookup a = s.mem.lookup a

/-- R181, R182, R189, R190: a finished render has written, at sample START_OFF + j for every j it had still to write,
the value of the waveform of its frame, computed from the registers and the payload it started with. -/
def Obligations.RenderWritesWaveform : Prop :=
  ∀ (s : State) (bs : List Byte), s.Inv → s.enc.busy = true → s.Payload bs →
    ∃ t, engineTurns (s.enc.nsamp - s.enc.pos.toNat) s = .next t ∧
      ∀ j, s.enc.pos.toNat ≤ j → j < s.enc.nsamp →
        t.pcmSample (s.enc.startOff.toNat + j) =
          BitVec.ofInt 16 (waveform s.params.sine s.enc (renderFrame s.enc.crcEn bs) j)

/-- R109, R340: no step that leaves a render under way changes a register or a TX byte the render reads. -/
def Obligations.RenderInputsFixedWhileBusy : Prop :=
  ∀ s t : State, s.params.ok = true → step s = .next t → s.enc.busy = true → t.enc.busy = true →
    t.enc.spw = s.enc.spw ∧ t.enc.amp = s.enc.amp ∧ t.enc.startOff = s.enc.startOff ∧ t.enc.len = s.enc.len ∧
    t.enc.crcEn = s.enc.crcEn ∧ t.enc.inc = s.enc.inc ∧
    ∀ a, 0x1000 ≤ a → a < 0x2000 → t.mem.lookup a = s.mem.lookup a

/-! ### The detector -/

/-- R215: best is the least index of a maximal level, second the maximum of the others, dom their difference, which
lies in 0 to 65535 for s16 levels. -/
def Obligations.DominanceIsMarginOfLeastArgmax : Prop :=
  ∀ g : Group,
    let v : Fin 4 → Int := fun k => match k with | 0 => g.g0 | 1 => g.g1 | 2 => g.g2 | 3 => g.g3
    (∀ k, v k ≤ v g.best) ∧ (∀ k, k < g.best → v k < v g.best) ∧
    (∃ k, k ≠ g.best ∧ v k = g.second) ∧ (∀ k, k ≠ g.best → v k ≤ g.second) ∧
    g.dom = v g.best - g.second ∧ g.top = v g.best ∧
    ((∀ k, -32768 ≤ v k ∧ v k ≤ 32767) → 0 ≤ g.dom ∧ g.dom ≤ 65535)

/-- R213: the filter subtracts the background level and saturates to s16; with OFFSET = 0 it is the identity. The
filtered levels of the two groups are those of bands 0 to 3 and 4 to 7 (R211). -/
def Obligations.FilterSaturates : Prop :=
  ∀ (d : Det) (i : Fin 8),
    d.filtered i = min 32767 (max (-32768) ((d.level.get i).toInt - (d.offset.get i).toInt)) ∧
    (d.offset.get i = 0 → d.filtered i = (d.level.get i).toInt) ∧
    d.lowGroup = ⟨d.filtered 0, d.filtered 1, d.filtered 2, d.filtered 3⟩ ∧
    d.highGroup = ⟨d.filtered 4, d.filtered 5, d.filtered 6, d.filtered 7⟩

/-- R218, R220: if two bands of a group share the maximum, its dominance is 0 and the slot yields NoMatch for every
setting of THRESH and FLOOR; so does a slot with a group whose best level is below FLOOR. -/
def Obligations.TieOrLowLevelNeverMatches : Prop :=
  ∀ (d : Det) (g : Group), g = d.lowGroup ∨ g = d.highGroup →
    ((∃ j k : Fin 4, j ≠ k ∧ [g.g0, g.g1, g.g2, g.g3].getD j.val 0 = g.top ∧
        [g.g0, g.g1, g.g2, g.g3].getD k.val 0 = g.top) →
      g.second = g.top ∧ g.dom = 0 ∧ d.result = .noMatch) ∧
    (g.top < d.floor.toInt → d.result = .noMatch)

/-- R219, R222, R223: DET_PUSH writes the result registers from the slot's levels, counts the slot modulo 2^32 and
hands the Result to ACC in the same transaction; it completes with OKAY, and nothing else of DET changes. -/
def Obligations.DetPushProcessesSlot : Prop :=
  ∀ (s : State) (d : Word),
    let gl := s.det.lowGroup
    let gh := s.det.highGroup
    let ml : Bool := decide ((s.det.thresh.toNat : Int) < gl.dom ∧ s.det.floor.toInt ≤ gl.top)
    let mh : Bool := decide ((s.det.thresh.toNat : Int) < gh.dom ∧ s.det.floor.toInt ≤ gh.top)
    let cand : Nibble := BitVec.ofNat 4 (4 * gl.best.val + gh.best.val)
    let det : Det := { s.det with
      cand := cand, matched := ml && mh, matchL := ml, matchH := mh
      domL := BitVec.ofInt 16 gl.dom, domH := BitVec.ofInt 16 gh.dom, slots := s.det.slots + 1 }
    ∃ u, exec (.accStep (if ml && mh then .sym cand else .noMatch)) { s with det := det } = .next u ∧
      exec (.detPush d) s = .next { u with reply := .write .okay } ∧ u.det = det

/-- R215, R217, R219 with R172: a slot gives back the symbol the encoder sends on tone lowIdx of LOW and tone
4 + highIdx of HIGH exactly when each of those two tones exceeds every other band of its group by more than THRESH
and reaches FLOOR, whatever the other levels are. -/
def Obligations.DetectorInvertsToneWiring : Prop :=
  ∀ (d : Det) (n : Nibble),
    let low : Fin 4 → Int := fun k => d.filtered (Fin.ofNat 8 k.val)
    let high : Fin 4 → Int := fun k => d.filtered (Fin.ofNat 8 (4 + k.val))
    let lowIdx := Fin.ofNat 4 (n.toNat / 4)
    let highIdx := Fin.ofNat 4 (n.toNat % 4)
    d.result = .sym n ↔
      (∀ k, k ≠ lowIdx → (d.thresh.toNat : Int) < low lowIdx - low k) ∧ d.floor.toInt ≤ low lowIdx ∧
      (∀ k, k ≠ highIdx → (d.thresh.toNat : Int) < high highIdx - high k) ∧ d.floor.toInt ≤ high highIdx

/-- R224: DET's decision depends only on the slot's levels, the offsets, THRESH and FLOOR: two machines that agree on
those write equal result registers at DET_PUSH, whatever else differs. -/
def Obligations.DetectorDecisionDependsOnSlotOnly : Prop :=
  ∀ (s s' t t' : State) (d d' : Word), s.det.level = s'.det.level → s.det.offset = s'.det.offset →
    s.det.thresh = s'.det.thresh → s.det.floor = s'.det.floor →
    exec (.detPush d) s = .next t → exec (.detPush d') s' = .next t' →
    t.det.cand = t'.det.cand ∧ t.det.matched = t'.det.matched ∧ t.det.matchL = t'.det.matchL ∧
    t.det.matchH = t'.det.matchH ∧ t.det.domL = t'.det.domL ∧ t.det.domH = t'.det.domH ∧
    s.det.result = s'.det.result

/-! ### The accumulator -/

/-- R240, R242, R244: ACC_STEP of a Sym slot in RUN mode. -/
def Obligations.AccStepSymRunMode : Prop :=
  ∀ (s : State) (x : Nibble), s.acc.mode = .run →
    let same := s.acc.runValid = true ∧ s.acc.runNib = x
    let cnt := if same then min (s.acc.runCnt.toNat + 1) 65535 else 1
    let h := (s.acc.slotsPerWord.toNat + 1) / 2
    let emit := ¬(same ∧ s.acc.runCnt = 0xFFFF) ∧ h ≤ cnt ∧ (cnt - h) % s.acc.slotsPerWord.toNat = 0
    let u := { s with
      acc := { s.acc with runValid := true, runNib := x, runCnt := BitVec.ofNat 16 cnt, gapCnt := 0 } }
    exec (.accStep (.sym x)) s = .next (if emit then u.emitNibble x else u)

/-- R240, R245: ACC_STEP of a Sym slot in CHANGE mode: it emits exactly when nothing has been emitted since the last
close, or the nibble differs from the last one emitted. -/
def Obligations.AccStepSymChangeMode : Prop :=
  ∀ (s : State) (x : Nibble), s.acc.mode = .change →
    let cnt := if s.acc.runValid = true ∧ s.acc.runNib = x then min (s.acc.runCnt.toNat + 1) 65535 else 1
    let u := { s with
      acc := { s.acc with runValid := true, runNib := x, runCnt := BitVec.ofNat 16 cnt, gapCnt := 0 } }
    exec (.accStep (.sym x)) s =
      .next (if s.acc.lastValid = false ∨ s.acc.lastNib ≠ x then u.emitNibble x else u)

/-- R240, R248, R267: ACC_STEP of a NoMatch slot: the run and the gap counters, and the close of an active frame at
the moment the gap reaches GAP_SLOTS. -/
def Obligations.AccStepNoMatchClosesGap : Prop :=
  ∀ s : State,
    let cnt := if s.acc.runValid = false then min (s.acc.runCnt.toNat + 1) 65535 else 1
    let gap := min (s.acc.gapCnt.toNat + 1) 65535
    let u := { s with acc := { s.acc with
      runValid := false, runNib := (if s.acc.runValid = false then s.acc.runNib else 0)
      runCnt := BitVec.ofNat 16 cnt, gapCnt := BitVec.ofNat 16 gap } }
    exec (.accStep .noMatch) s = .next (
      if s.acc.gapCnt ≠ 0xFFFF ∧ s.acc.gapSlots ≠ 0 ∧ gap = s.acc.gapSlots.toNat ∧ s.acc.frameActive = true then
        u.frameClose
      else u)

/-- R240, R250 to R253: what an emission does: it always becomes the last nibble; while a closed frame waits it is
discarded with LOST; otherwise it enters the frame, as the held high nibble or completing a byte, which is stored
and enters the CRC, or is dropped with OVF when RX RAM is full. -/
def Obligations.EmissionEntersFrame : Prop :=
  ∀ (s : State) (x : Nibble),
    let a := { s.acc with lastValid := true, lastNib := x }
    let b : Byte := BitVec.ofNat 8 (s.acc.hi.toNat * 16 + x.toNat)
    s.emitNibble x =
      if s.acc.frameValid then
        { s with acc := { a with lost := true }, irqStatus := s.irqStatus ||| 0b10000 }
      else if s.acc.nibPhase = false then
        { s with
          acc := { a with frameActive := true, hi := x, nibPhase := true }
          irqStatus := s.irqStatus ||| 0b00100 }
      else if s.acc.count.toNat < s.params.rxDepth then
        { s with
          mem := s.mem.write (0x2000 + s.acc.count.toNat) b
          acc := { a with
            frameActive := true, count := s.acc.count + 1, crc := crc8Step s.acc.crc b
            nibPhase := false, hi := 0 }
          irqStatus := s.irqStatus ||| 0b00100 }
      else
        { s with
          acc := { a with frameActive := true, ovf := true, nibPhase := false, hi := 0 }
          irqStatus := s.irqStatus ||| 0b10100 }

/-- R266 with R265: FRAME_CLOSE, its pseudocode. -/
def Obligations.FrameCloseGivesVerdict : Prop :=
  ∀ s : State,
    let cleared := { s.acc with
      nibPhase := false, hi := 0, frameActive := false, crc := 0, runValid := false, runNib := 0, runCnt := 0
      lastValid := false, lastNib := 0, gapCnt := 0 }
    exec .frameClose s = .next (
      if s.acc.frameActive then
        { s with
          acc := { cleared with
            frameValid := true, frameLen := s.acc.count
            crcOk := decide (1 ≤ s.acc.count.toNat ∧ s.acc.ovf = false ∧ (s.acc.crcEn = false ∨ s.acc.crc = 0)) }
          irqStatus := s.irqStatus ||| 0b01000 }
      else { s with acc := cleared })

/-- R268: RX_ACK releases a closed frame, and does nothing without one. -/
def Obligations.AckReleasesFrame : Prop :=
  ∀ (s : State) (d : Word), exec (.rxAck d) s = .next (
    if s.acc.frameValid then
      { s with
        acc := { s.acc with frameValid := false, crcOk := false, ovf := false, count := 0, frameLen := 0 }
        reply := .write .okay }
    else { s with reply := .write .okay })

/-- R55, R269, R270: RX_FLUSH is FRAME_CLOSE, and RX_ACK_FLUSH is RX_ACK and then RX_FLUSH, in one transaction. -/
def Obligations.FlushClosesAfterAck : Prop :=
  ∀ (s : State) (d : Word),
    (∃ u, exec .frameClose s = .next u ∧ exec (.rxFlush d) s = .next { u with reply := .write .okay }) ∧
    ∃ u v, exec (.rxAck d) s = .next u ∧ exec (.rxFlush d) u = .next v ∧ exec (.rxAckFlush d) s = .next v

/-- R260, R261: crc8_step is eight shifts of the CRC with the byte XORed in, each reduced by 0x07 when bit 7 falls
out, crc8 folds it over the bytes from 0x00, and appending the byte B to a string P leaves the residue 0x00 exactly
when B is crc8(P). -/
def Obligations.CrcResidueIsZero : Prop :=
  (∀ c b : Byte, (crc8Step c b).toNat =
    (fun x : Nat => if 128 ≤ x then (2 * x % 256) ^^^ 7 else 2 * x)^[8] (c.toNat ^^^ b.toNat)) ∧
  crc8 [] = 0 ∧
  (∀ (p : List Byte) (b : Byte), crc8 (p ++ [b]) = crc8Step (crc8 p) b) ∧
  ∀ (p : List Byte) (b : Byte), crc8 (p ++ [b]) = 0 ↔ b = crc8 p

/-- R244, R246: in RUN mode, of a run of L slots of one symbol N(L) = ⌊(L − h)/S⌋ + 1 slots emit if L ≥ h and none
otherwise, whatever frame is open, full or waiting: the next `l` slots of a run that has `k` behind it (none where
the slot before was another Result) do nothing but count the run and emit N(k + l) − N(k) times. The emissions are
all accepted while no closed frame waits and RX RAM has room. N(L) = j exactly when
(j − 1)·S + h ≤ L ≤ j·S + h − 1. -/
def Obligations.RunEmitsOncePerWord : Prop :=
  ∀ (s : State) (x : Nibble) (l : Nat), s.acc.mode = .run → s.acc.slotsPerWord ≠ 0 → 0 < l →
    let k := if s.acc.runValid = true ∧ s.acc.runNib = x then s.acc.runCnt.toNat else 0
    let w := s.acc.slotsPerWord.toNat
    let h := (w + 1) / 2
    let emissions : Nat → Nat := fun m => if m < h then 0 else (m - h) / w + 1
    let n := emissions (k + l) - emissions k
    let t := accSteps s (List.replicate l (.sym x))
    k + l ≤ 65535 →
      t = (fun u : State => u.emitNibble x)^[n] { s with
        acc := { s.acc with
          runValid := true, runNib := x, runCnt := BitVec.ofNat 16 (k + l), gapCnt := 0 } } ∧
      (s.params.ok = true → s.acc.frameValid = false → s.acc.nibbles + n ≤ 2 * s.params.rxDepth →
        t.acc.nibbles = s.acc.nibbles + n ∧ t.acc.ovf = s.acc.ovf) ∧
      ∀ j, 0 < j → (emissions (k + l) = j ↔ (j - 1) * w + h ≤ k + l ∧ k + l ≤ j * w + h - 1)

/-- R263 to R266, R273: bytes sent one slot per word are received whole; and the close of a frame that lost no byte
sets CRC_OK exactly when CRC_EN is 0 or its last byte is the CRC-8 of the bytes before it, so a payload with its
trailer is valid and a run that lacks the marker is not. -/
def Obligations.ReceivedFrameIsValid : Prop :=
  (∀ (s : State) (p : List Byte) (b : Byte), s.params.ok = true → s.acc.fresh → s.acc.mode = .run →
    s.acc.slotsPerWord = 1 → p.length + 1 ≤ s.params.rxDepth →
    ∃ t, exec .frameClose (accSteps s (symbolSlots (p ++ [b]))) = .next t ∧
      t.acc.frameValid = true ∧ (t.acc.crcOk = true ↔ s.acc.crcEn = false ∨ b = crc8 p) ∧
      t.acc.frameLen.toNat = p.length + 1 ∧ t.mem.writtenBytes 0x2000 (p.length + 1) = some (p ++ [b])) ∧
  ∀ (s : State) (p : List Byte) (b : Byte), s.Inv → s.acc.frameActive = true →
    s.acc.count.toNat = p.length + 1 → s.mem.writtenBytes 0x2000 (p.length + 1) = some (p ++ [b]) →
    ∃ t, exec .frameClose s = .next t ∧ t.acc.frameValid = true ∧
      (t.acc.crcOk = true ↔ s.acc.ovf = false ∧ (s.acc.crcEn = false ∨ b = crc8 p))

/-- R94, R251, R272: while a closed frame waits, no step changes a byte of the RX window, short of a power-on reset. -/
def Obligations.ClosedFrameBytesKept : Prop :=
  ∀ s t : State, s.params.ok = true → step s = .next t → s.acc.frameValid = true →
    t.powerCycles = s.powerCycles → ∀ a, 0x2000 ≤ a → a < 0x3000 → t.mem.lookup a = s.mem.lookup a

/-! ### Interrupts and whole-machine rules -/

/-- R68, R300: `irq` is 1 exactly when some source is both pending and enabled; it is 0 after reset. -/
def Obligations.IrqIsPendingAndEnabled : Prop :=
  (∀ s : State, s.irq = true ↔ ∃ b, b < 5 ∧ s.irqStatus.getLsbD b = true ∧ s.irqEnable.getLsbD b = true) ∧
  State.reset.irq = false

/-- R299, R304: a pending interrupt flag is cleared only by the host's write of 1 to it, by the soft reset or by the
reset input. -/
def Obligations.PendingIrqClearedOnlyByHost : Prop :=
  ∀ (s t : State) (b : Nat), step s = .next t → s.irqStatus.getLsbD b = true → t.irqStatus.getLsbD b = false →
    ∃ rest, (∃ tx d, s.schedule = .bus tx :: rest ∧
        ((decode tx = .wrIrqStatus d ∧ d.getLsbD b = true) ∨ decode tx = .srst d)) ∨
      (s.schedule = .releaseReset :: rest ∧ s.rst = true)

/-- R65, R66, R222, R340: ENC shares no state with DET and ACC. No instruction but the soft reset changes both ENC and
one of the other two; what an instruction makes of DET, ACC and the RX bytes is the same whatever ENC holds; and what
it makes of ENC and the TX and PCM bytes is the same whatever DET and ACC hold. -/
def Obligations.EncoderSharesNoState : Prop :=
  ∀ (i : Instr) (s t : State), exec i s = .next t →
    (t.enc = s.enc ∨ (t.det = s.det ∧ t.acc = s.acc) ∨ ∃ d, i = .srst d) ∧
    (∀ (e : Enc) (u : State), exec i { s with enc := e } = .next u →
      u.det = t.det ∧ u.acc = t.acc ∧ ∀ a, 0x2000 ≤ a → a < 0x3000 → u.mem.lookup a = t.mem.lookup a) ∧
    ∀ (d : Det) (c : Acc), ∃ u, exec i { s with det := d, acc := c } = .next u ∧
      u.enc = t.enc ∧
      ∀ a, (0x1000 ≤ a ∧ a < 0x2000) ∨ 0x100000 ≤ a → u.mem.lookup a = t.mem.lookup a

/-- R52, R222: DET_SLOTS counts the DET_PUSH operations modulo 2^32: no other instruction but the soft reset, which
clears it, changes it. -/
def Obligations.SlotCounterCountsPushes : Prop :=
  ∀ (i : Instr) (s t : State), exec i s = .next t →
    t.det.slots = (match i with | .detPush _ => s.det.slots + 1 | .srst _ => 0 | _ => s.det.slots)

/-- R330, R332, R334: the state after a power-on reset has every register and internal state element at the value of
R332's table, with the default parameters of R11 to R14 and no RAM byte written; it is idle, with no frame and no
pending interrupt, and satisfies the invariant. The values of `rst`, `reply`, `schedule`, `powerCycles` and `draws`
are the model's choice (log entries 12, 11, 6, 1 and 2), and so is the place of the parameters (log entry 10). -/
def Obligations.ResetSatisfiesInvariant : Prop :=
  State.reset =
    { irqStatus := 0
      irqEnable := 0
      enc :=
        { crcEn := true, busy := false, errCfg := false, errBuf := false, werr := false, cfgCause := .none
          spw := 0, amp := 0, startOff := 0, len := 0, pos := 0, inc := ⟨0, 0, 0, 0, 0, 0, 0, 0⟩ }
      det :=
        { thresh := 0x12C, floor := 0x8000, cand := 0, matched := false, matchL := false, matchH := false
          domL := 0, domH := 0, slots := 0, level := ⟨0, 0, 0, 0, 0, 0, 0, 0⟩, offset := ⟨0, 0, 0, 0, 0, 0, 0, 0⟩ }
      acc :=
        { crcEn := true, mode := .run, slotsPerWord := 1, gapSlots := 0, runValid := false, runNib := 0, runCnt := 0
          lastValid := false, lastNib := 0, gapCnt := 0, nibPhase := false, hi := 0, frameActive := false, crc := 0
          count := 0, frameValid := false, crcOk := false, ovf := false, lost := false, frameLen := 0 }
      mem := []
      rst := false
      params := { txDepth := 256, rxDepth := 256, pcmDepth := 262144, sine := .reference }
      reply := .none
      schedule := []
      powerCycles := 0
      draws := 0 } ∧
  State.reset.enc.nsamp = 0 ∧ State.reset.irq = false ∧ State.reset.Inv

/-- R39, R41, R57 to R59, R67, R96, R177, R180, R251, R252, R260: every step from a state of the invariant, whatever
the schedule, leads to a state of the invariant; no step changes a parameter. -/
def Obligations.StepKeepsInvariant : Prop :=
  ∀ s t : State, s.Inv → step s = .next t → t.Inv ∧ t.params = s.params

/-- R177, R182, R184: no step from a state of the invariant stops: no fault and no refusal is reachable. -/
def Obligations.InvariantNeverStops : Prop := ∀ s : State, s.Inv → s.Steps

/-! ### Host programs -/

/-- R141, R142, U15: each turn of the master at a poll is one 32-bit read, whose word t it names, be the response OKAY
or ERROR; the poll is over exactly when (t AND MASK) = VALUE, whatever other events fall between the reads, and
until then it has made one read for each turn of the master and no line behind it has begun. So a poll on BUSY = 0
ends exactly at an idle engine, and one that waits for ID to read otherwise than it does never ends. -/
def Obligations.PollRepeatsUntilCondition : Prop :=
  ∀ (r : HostRun) (off mask value : Word) (rest : List HostLine), r.todo = .poll off mask value :: rest →
    (r.modem.rst = false → ∃ rsp t u,
      u = { r.modem with reply := .read rsp t } ∧ exec (decode ⟨.rd32, off, 0⟩) r.modem = .next u ∧
      r.turn .master = .next { r with
        modem := u
        todo := if t &&& mask = value then rest else .poll off mask value :: rest
        names := ("t", t) :: r.names
        issued := r.issued ++ [⟨.rd32, off, 0⟩] } ∧
      (off = 0x104 → mask = 1 → value = 0 → (t &&& mask = value ↔ r.modem.enc.busy = false))) ∧
    (∀ (ts : List HostTurn) (q : HostRun), r.turns ts = .next q →
      (∀ pre post p, ts = pre ++ .master :: post → r.turns (pre ++ [.master]) = .next p →
        ∀ rsp t, p.modem.reply = .read rsp t → t &&& mask ≠ value) →
      q.todo = .poll off mask value :: rest ∧
      q.issued = r.issued ++ List.replicate (ts.count .master) ⟨.rd32, off, 0⟩ ∧ q.held = r.held) ∧
    (off = 0 → 0x4D4F4445 &&& mask ≠ value → r.modem.rst = false → r.modem.schedule = [] →
      ∀ (ts : List HostTurn) (q : HostRun), r.turns ts = .next q → q.todo = .poll off mask value :: rest)
end

