-- ==== Sys2Proof/Laws/HostProgram.lean ====
section
/-!
SUPPORT. What a host program's run can do, said once: how a run goes on after a step of MODEM, what a turn of the
master is at each kind of line, and how interleavings compose.
-/

namespace Sys2Proof.Machine

/-- A run goes on exactly when MODEM's step answers a next state. -/
theorem HostRun.goOn_eq_next {k : State → HostRun} {o : StepResult} {q : HostRun} :
    HostRun.goOn k o = .next q ↔ ∃ t, o = .next t ∧ q = k t := by
  cases o <;> simp [HostRun.goOn, eq_comm]

@[simp] theorem HostRun.afterTxn_modem (r : HostRun) (l : HostLine) (rest : List HostLine) (t : Txn) (u : State) :
    (r.afterTxn l rest t u).modem = u := rfl
@[simp] theorem HostRun.afterTxn_todo (r : HostRun) (l : HostLine) (rest : List HostLine) (t : Txn) (u : State) :
    (r.afterTxn l rest t u).todo = if l.overAfter u.reply then rest else l :: rest := rfl
@[simp] theorem HostRun.afterTxn_issued (r : HostRun) (l : HostLine) (rest : List HostLine) (t : Txn) (u : State) :
    (r.afterTxn l rest t u).issued = r.issued ++ [t] := rfl
@[simp] theorem HostRun.afterTxn_held (r : HostRun) (l : HostLine) (rest : List HostLine) (t : Txn) (u : State) :
    (r.afterTxn l rest t u).held = r.held := rfl

/-- A turn of the master that answers a next run: the program has ended, or its first line made its transaction, or
that line is an assertion. -/
theorem HostRun.masterTurn_cases {r q : HostRun} (h : r.masterTurn = .next q) :
    (r.todo = [] ∧ q = r) ∨
    ∃ l rest, r.todo = l :: rest ∧
      ((∃ t u, l.txn = some t ∧ step (r.modem.setSchedule (.bus t :: r.modem.schedule)) = .next u ∧
          q = r.afterTxn l rest t u) ∨
        (l.txn = none ∧ q = { r with todo := rest, held := r.held && l.holds r.names })) := by
  unfold HostRun.masterTurn at h
  split at h
  · next e => exact .inl ⟨e, by cases h; rfl⟩
  · next l rest e =>
    refine .inr ⟨l, rest, e, ?_⟩
    split at h
    · next t ht =>
      obtain ⟨u, hu, hq⟩ := HostRun.goOn_eq_next.1 h
      exact .inl ⟨t, u, ht, hu, hq⟩
    · next ht => exact .inr ⟨ht, by cases h; rfl⟩

/-- Two interleavings one after the other. -/
theorem HostRun.turns_append (r : HostRun) (xs ys : List HostTurn) :
    r.turns (xs ++ ys) = match r.turns xs with
      | .next q => q.turns ys
      | .fault f => .fault f
      | .refused f => .refused f := by
  induction xs generalizing r with
  | nil => rfl
  | cons x xs ih =>
    simp only [List.cons_append, HostRun.turns]
    cases r.turn x <;> simp [ih]

end Sys2Proof.Machine
end

