-- ==== Sys2Proof/Laws/State.lean ====
section
/-!
SUPPORT. One lemma per field per update of `State`, and per register an update of a bank leaves alone, so that no
later proof unfolds a record update.
-/

namespace Sys2Proof

/-- Reading back the register of a bank that was set. -/
@[simp] theorem Bank.get_set_same {α : Type} (b : Bank α) (i : Fin 8) (x : α) : (b.set i x).get i = x := by
  fin_cases i <;> rfl

/-- Setting a register of a bank leaves the others alone. -/
theorem Bank.get_set_ne {α : Type} (b : Bank α) {i j : Fin 8} (x : α) (h : j ≠ i) :
    (b.set i x).get j = b.get j := by
  fin_cases i <;> fin_cases j <;> first | rfl | exact absurd rfl h

@[simp] theorem Bank.get_fill {α : Type} (x : α) (i : Fin 8) : (Bank.fill x).get i = x := by
  fin_cases i <;> rfl

namespace Machine

/-! ### setIrqStatus -/

@[simp] theorem State.setIrqStatus_irqStatus (s : State) (v : BitVec 5) : (s.setIrqStatus v).irqStatus = v := rfl
@[simp] theorem State.setIrqStatus_irqEnable (s : State) (v : BitVec 5) : (s.setIrqStatus v).irqEnable = s.irqEnable := rfl
@[simp] theorem State.setIrqStatus_enc (s : State) (v : BitVec 5) : (s.setIrqStatus v).enc = s.enc := rfl
@[simp] theorem State.setIrqStatus_det (s : State) (v : BitVec 5) : (s.setIrqStatus v).det = s.det := rfl
@[simp] theorem State.setIrqStatus_acc (s : State) (v : BitVec 5) : (s.setIrqStatus v).acc = s.acc := rfl
@[simp] theorem State.setIrqStatus_mem (s : State) (v : BitVec 5) : (s.setIrqStatus v).mem = s.mem := rfl
@[simp] theorem State.setIrqStatus_rst (s : State) (v : BitVec 5) : (s.setIrqStatus v).rst = s.rst := rfl
@[simp] theorem State.setIrqStatus_params (s : State) (v : BitVec 5) : (s.setIrqStatus v).params = s.params := rfl
@[simp] theorem State.setIrqStatus_reply (s : State) (v : BitVec 5) : (s.setIrqStatus v).reply = s.reply := rfl
@[simp] theorem State.setIrqStatus_schedule (s : State) (v : BitVec 5) : (s.setIrqStatus v).schedule = s.schedule := rfl
@[simp] theorem State.setIrqStatus_powerCycles (s : State) (v : BitVec 5) : (s.setIrqStatus v).powerCycles = s.powerCycles := rfl
@[simp] theorem State.setIrqStatus_draws (s : State) (v : BitVec 5) : (s.setIrqStatus v).draws = s.draws := rfl

/-! ### setIrqEnable -/

@[simp] theorem State.setIrqEnable_irqStatus (s : State) (v : BitVec 5) : (s.setIrqEnable v).irqStatus = s.irqStatus := rfl
@[simp] theorem State.setIrqEnable_irqEnable (s : State) (v : BitVec 5) : (s.setIrqEnable v).irqEnable = v := rfl
@[simp] theorem State.setIrqEnable_enc (s : State) (v : BitVec 5) : (s.setIrqEnable v).enc = s.enc := rfl
@[simp] theorem State.setIrqEnable_det (s : State) (v : BitVec 5) : (s.setIrqEnable v).det = s.det := rfl
@[simp] theorem State.setIrqEnable_acc (s : State) (v : BitVec 5) : (s.setIrqEnable v).acc = s.acc := rfl
@[simp] theorem State.setIrqEnable_mem (s : State) (v : BitVec 5) : (s.setIrqEnable v).mem = s.mem := rfl
@[simp] theorem State.setIrqEnable_rst (s : State) (v : BitVec 5) : (s.setIrqEnable v).rst = s.rst := rfl
@[simp] theorem State.setIrqEnable_params (s : State) (v : BitVec 5) : (s.setIrqEnable v).params = s.params := rfl
@[simp] theorem State.setIrqEnable_reply (s : State) (v : BitVec 5) : (s.setIrqEnable v).reply = s.reply := rfl
@[simp] theorem State.setIrqEnable_schedule (s : State) (v : BitVec 5) : (s.setIrqEnable v).schedule = s.schedule := rfl
@[simp] theorem State.setIrqEnable_powerCycles (s : State) (v : BitVec 5) : (s.setIrqEnable v).powerCycles = s.powerCycles := rfl
@[simp] theorem State.setIrqEnable_draws (s : State) (v : BitVec 5) : (s.setIrqEnable v).draws = s.draws := rfl

/-! ### setEnc -/

@[simp] theorem State.setEnc_irqStatus (s : State) (v : Enc) : (s.setEnc v).irqStatus = s.irqStatus := rfl
@[simp] theorem State.setEnc_irqEnable (s : State) (v : Enc) : (s.setEnc v).irqEnable = s.irqEnable := rfl
@[simp] theorem State.setEnc_enc (s : State) (v : Enc) : (s.setEnc v).enc = v := rfl
@[simp] theorem State.setEnc_det (s : State) (v : Enc) : (s.setEnc v).det = s.det := rfl
@[simp] theorem State.setEnc_acc (s : State) (v : Enc) : (s.setEnc v).acc = s.acc := rfl
@[simp] theorem State.setEnc_mem (s : State) (v : Enc) : (s.setEnc v).mem = s.mem := rfl
@[simp] theorem State.setEnc_rst (s : State) (v : Enc) : (s.setEnc v).rst = s.rst := rfl
@[simp] theorem State.setEnc_params (s : State) (v : Enc) : (s.setEnc v).params = s.params := rfl
@[simp] theorem State.setEnc_reply (s : State) (v : Enc) : (s.setEnc v).reply = s.reply := rfl
@[simp] theorem State.setEnc_schedule (s : State) (v : Enc) : (s.setEnc v).schedule = s.schedule := rfl
@[simp] theorem State.setEnc_powerCycles (s : State) (v : Enc) : (s.setEnc v).powerCycles = s.powerCycles := rfl
@[simp] theorem State.setEnc_draws (s : State) (v : Enc) : (s.setEnc v).draws = s.draws := rfl

/-! ### setDet -/

@[simp] theorem State.setDet_irqStatus (s : State) (v : Det) : (s.setDet v).irqStatus = s.irqStatus := rfl
@[simp] theorem State.setDet_irqEnable (s : State) (v : Det) : (s.setDet v).irqEnable = s.irqEnable := rfl
@[simp] theorem State.setDet_enc (s : State) (v : Det) : (s.setDet v).enc = s.enc := rfl
@[simp] theorem State.setDet_det (s : State) (v : Det) : (s.setDet v).det = v := rfl
@[simp] theorem State.setDet_acc (s : State) (v : Det) : (s.setDet v).acc = s.acc := rfl
@[simp] theorem State.setDet_mem (s : State) (v : Det) : (s.setDet v).mem = s.mem := rfl
@[simp] theorem State.setDet_rst (s : State) (v : Det) : (s.setDet v).rst = s.rst := rfl
@[simp] theorem State.setDet_params (s : State) (v : Det) : (s.setDet v).params = s.params := rfl
@[simp] theorem State.setDet_reply (s : State) (v : Det) : (s.setDet v).reply = s.reply := rfl
@[simp] theorem State.setDet_schedule (s : State) (v : Det) : (s.setDet v).schedule = s.schedule := rfl
@[simp] theorem State.setDet_powerCycles (s : State) (v : Det) : (s.setDet v).powerCycles = s.powerCycles := rfl
@[simp] theorem State.setDet_draws (s : State) (v : Det) : (s.setDet v).draws = s.draws := rfl

/-! ### setAcc -/

@[simp] theorem State.setAcc_irqStatus (s : State) (v : Acc) : (s.setAcc v).irqStatus = s.irqStatus := rfl
@[simp] theorem State.setAcc_irqEnable (s : State) (v : Acc) : (s.setAcc v).irqEnable = s.irqEnable := rfl
@[simp] theorem State.setAcc_enc (s : State) (v : Acc) : (s.setAcc v).enc = s.enc := rfl
@[simp] theorem State.setAcc_det (s : State) (v : Acc) : (s.setAcc v).det = s.det := rfl
@[simp] theorem State.setAcc_acc (s : State) (v : Acc) : (s.setAcc v).acc = v := rfl
@[simp] theorem State.setAcc_mem (s : State) (v : Acc) : (s.setAcc v).mem = s.mem := rfl
@[simp] theorem State.setAcc_rst (s : State) (v : Acc) : (s.setAcc v).rst = s.rst := rfl
@[simp] theorem State.setAcc_params (s : State) (v : Acc) : (s.setAcc v).params = s.params := rfl
@[simp] theorem State.setAcc_reply (s : State) (v : Acc) : (s.setAcc v).reply = s.reply := rfl
@[simp] theorem State.setAcc_schedule (s : State) (v : Acc) : (s.setAcc v).schedule = s.schedule := rfl
@[simp] theorem State.setAcc_powerCycles (s : State) (v : Acc) : (s.setAcc v).powerCycles = s.powerCycles := rfl
@[simp] theorem State.setAcc_draws (s : State) (v : Acc) : (s.setAcc v).draws = s.draws := rfl

/-! ### setMem -/

@[simp] theorem State.setMem_irqStatus (s : State) (v : Memory) : (s.setMem v).irqStatus = s.irqStatus := rfl
@[simp] theorem State.setMem_irqEnable (s : State) (v : Memory) : (s.setMem v).irqEnable = s.irqEnable := rfl
@[simp] theorem State.setMem_enc (s : State) (v : Memory) : (s.setMem v).enc = s.enc := rfl
@[simp] theorem State.setMem_det (s : State) (v : Memory) : (s.setMem v).det = s.det := rfl
@[simp] theorem State.setMem_acc (s : State) (v : Memory) : (s.setMem v).acc = s.acc := rfl
@[simp] theorem State.setMem_mem (s : State) (v : Memory) : (s.setMem v).mem = v := rfl
@[simp] theorem State.setMem_rst (s : State) (v : Memory) : (s.setMem v).rst = s.rst := rfl
@[simp] theorem State.setMem_params (s : State) (v : Memory) : (s.setMem v).params = s.params := rfl
@[simp] theorem State.setMem_reply (s : State) (v : Memory) : (s.setMem v).reply = s.reply := rfl
@[simp] theorem State.setMem_schedule (s : State) (v : Memory) : (s.setMem v).schedule = s.schedule := rfl
@[simp] theorem State.setMem_powerCycles (s : State) (v : Memory) : (s.setMem v).powerCycles = s.powerCycles := rfl
@[simp] theorem State.setMem_draws (s : State) (v : Memory) : (s.setMem v).draws = s.draws := rfl

/-! ### setRst -/

@[simp] theorem State.setRst_irqStatus (s : State) (v : Bool) : (s.setRst v).irqStatus = s.irqStatus := rfl
@[simp] theorem State.setRst_irqEnable (s : State) (v : Bool) : (s.setRst v).irqEnable = s.irqEnable := rfl
@[simp] theorem State.setRst_enc (s : State) (v : Bool) : (s.setRst v).enc = s.enc := rfl
@[simp] theorem State.setRst_det (s : State) (v : Bool) : (s.setRst v).det = s.det := rfl
@[simp] theorem State.setRst_acc (s : State) (v : Bool) : (s.setRst v).acc = s.acc := rfl
@[simp] theorem State.setRst_mem (s : State) (v : Bool) : (s.setRst v).mem = s.mem := rfl
@[simp] theorem State.setRst_rst (s : State) (v : Bool) : (s.setRst v).rst = v := rfl
@[simp] theorem State.setRst_params (s : State) (v : Bool) : (s.setRst v).params = s.params := rfl
@[simp] theorem State.setRst_reply (s : State) (v : Bool) : (s.setRst v).reply = s.reply := rfl
@[simp] theorem State.setRst_schedule (s : State) (v : Bool) : (s.setRst v).schedule = s.schedule := rfl
@[simp] theorem State.setRst_powerCycles (s : State) (v : Bool) : (s.setRst v).powerCycles = s.powerCycles := rfl
@[simp] theorem State.setRst_draws (s : State) (v : Bool) : (s.setRst v).draws = s.draws := rfl

/-! ### setReply -/

@[simp] theorem State.setReply_irqStatus (s : State) (v : Reply) : (s.setReply v).irqStatus = s.irqStatus := rfl
@[simp] theorem State.setReply_irqEnable (s : State) (v : Reply) : (s.setReply v).irqEnable = s.irqEnable := rfl
@[simp] theorem State.setReply_enc (s : State) (v : Reply) : (s.setReply v).enc = s.enc := rfl
@[simp] theorem State.setReply_det (s : State) (v : Reply) : (s.setReply v).det = s.det := rfl
@[simp] theorem State.setReply_acc (s : State) (v : Reply) : (s.setReply v).acc = s.acc := rfl
@[simp] theorem State.setReply_mem (s : State) (v : Reply) : (s.setReply v).mem = s.mem := rfl
@[simp] theorem State.setReply_rst (s : State) (v : Reply) : (s.setReply v).rst = s.rst := rfl
@[simp] theorem State.setReply_params (s : State) (v : Reply) : (s.setReply v).params = s.params := rfl
@[simp] theorem State.setReply_reply (s : State) (v : Reply) : (s.setReply v).reply = v := rfl
@[simp] theorem State.setReply_schedule (s : State) (v : Reply) : (s.setReply v).schedule = s.schedule := rfl
@[simp] theorem State.setReply_powerCycles (s : State) (v : Reply) : (s.setReply v).powerCycles = s.powerCycles := rfl
@[simp] theorem State.setReply_draws (s : State) (v : Reply) : (s.setReply v).draws = s.draws := rfl

/-! ### setSchedule -/

@[simp] theorem State.setSchedule_irqStatus (s : State) (v : List Event) : (s.setSchedule v).irqStatus = s.irqStatus := rfl
@[simp] theorem State.setSchedule_irqEnable (s : State) (v : List Event) : (s.setSchedule v).irqEnable = s.irqEnable := rfl
@[simp] theorem State.setSchedule_enc (s : State) (v : List Event) : (s.setSchedule v).enc = s.enc := rfl
@[simp] theorem State.setSchedule_det (s : State) (v : List Event) : (s.setSchedule v).det = s.det := rfl
@[simp] theorem State.setSchedule_acc (s : State) (v : List Event) : (s.setSchedule v).acc = s.acc := rfl
@[simp] theorem State.setSchedule_mem (s : State) (v : List Event) : (s.setSchedule v).mem = s.mem := rfl
@[simp] theorem State.setSchedule_rst (s : State) (v : List Event) : (s.setSchedule v).rst = s.rst := rfl
@[simp] theorem State.setSchedule_params (s : State) (v : List Event) : (s.setSchedule v).params = s.params := rfl
@[simp] theorem State.setSchedule_reply (s : State) (v : List Event) : (s.setSchedule v).reply = s.reply := rfl
@[simp] theorem State.setSchedule_schedule (s : State) (v : List Event) : (s.setSchedule v).schedule = v := rfl
@[simp] theorem State.setSchedule_powerCycles (s : State) (v : List Event) : (s.setSchedule v).powerCycles = s.powerCycles := rfl
@[simp] theorem State.setSchedule_draws (s : State) (v : List Event) : (s.setSchedule v).draws = s.draws := rfl

/-! ### setPowerCycles -/

@[simp] theorem State.setPowerCycles_irqStatus (s : State) (v : Nat) : (s.setPowerCycles v).irqStatus = s.irqStatus := rfl
@[simp] theorem State.setPowerCycles_irqEnable (s : State) (v : Nat) : (s.setPowerCycles v).irqEnable = s.irqEnable := rfl
@[simp] theorem State.setPowerCycles_enc (s : State) (v : Nat) : (s.setPowerCycles v).enc = s.enc := rfl
@[simp] theorem State.setPowerCycles_det (s : State) (v : Nat) : (s.setPowerCycles v).det = s.det := rfl
@[simp] theorem State.setPowerCycles_acc (s : State) (v : Nat) : (s.setPowerCycles v).acc = s.acc := rfl
@[simp] theorem State.setPowerCycles_mem (s : State) (v : Nat) : (s.setPowerCycles v).mem = s.mem := rfl
@[simp] theorem State.setPowerCycles_rst (s : State) (v : Nat) : (s.setPowerCycles v).rst = s.rst := rfl
@[simp] theorem State.setPowerCycles_params (s : State) (v : Nat) : (s.setPowerCycles v).params = s.params := rfl
@[simp] theorem State.setPowerCycles_reply (s : State) (v : Nat) : (s.setPowerCycles v).reply = s.reply := rfl
@[simp] theorem State.setPowerCycles_schedule (s : State) (v : Nat) : (s.setPowerCycles v).schedule = s.schedule := rfl
@[simp] theorem State.setPowerCycles_powerCycles (s : State) (v : Nat) : (s.setPowerCycles v).powerCycles = v := rfl
@[simp] theorem State.setPowerCycles_draws (s : State) (v : Nat) : (s.setPowerCycles v).draws = s.draws := rfl

/-! ### setDraws -/

@[simp] theorem State.setDraws_irqStatus (s : State) (v : Nat) : (s.setDraws v).irqStatus = s.irqStatus := rfl
@[simp] theorem State.setDraws_irqEnable (s : State) (v : Nat) : (s.setDraws v).irqEnable = s.irqEnable := rfl
@[simp] theorem State.setDraws_enc (s : State) (v : Nat) : (s.setDraws v).enc = s.enc := rfl
@[simp] theorem State.setDraws_det (s : State) (v : Nat) : (s.setDraws v).det = s.det := rfl
@[simp] theorem State.setDraws_acc (s : State) (v : Nat) : (s.setDraws v).acc = s.acc := rfl
@[simp] theorem State.setDraws_mem (s : State) (v : Nat) : (s.setDraws v).mem = s.mem := rfl
@[simp] theorem State.setDraws_rst (s : State) (v : Nat) : (s.setDraws v).rst = s.rst := rfl
@[simp] theorem State.setDraws_params (s : State) (v : Nat) : (s.setDraws v).params = s.params := rfl
@[simp] theorem State.setDraws_reply (s : State) (v : Nat) : (s.setDraws v).reply = s.reply := rfl
@[simp] theorem State.setDraws_schedule (s : State) (v : Nat) : (s.setDraws v).schedule = s.schedule := rfl
@[simp] theorem State.setDraws_powerCycles (s : State) (v : Nat) : (s.setDraws v).powerCycles = s.powerCycles := rfl
@[simp] theorem State.setDraws_draws (s : State) (v : Nat) : (s.setDraws v).draws = v := rfl

/-! ### replyOkay -/

@[simp] theorem State.replyOkay_irqStatus (s : State) : s.replyOkay.irqStatus = s.irqStatus := rfl
@[simp] theorem State.replyOkay_irqEnable (s : State) : s.replyOkay.irqEnable = s.irqEnable := rfl
@[simp] theorem State.replyOkay_enc (s : State) : s.replyOkay.enc = s.enc := rfl
@[simp] theorem State.replyOkay_det (s : State) : s.replyOkay.det = s.det := rfl
@[simp] theorem State.replyOkay_acc (s : State) : s.replyOkay.acc = s.acc := rfl
@[simp] theorem State.replyOkay_mem (s : State) : s.replyOkay.mem = s.mem := rfl
@[simp] theorem State.replyOkay_rst (s : State) : s.replyOkay.rst = s.rst := rfl
@[simp] theorem State.replyOkay_params (s : State) : s.replyOkay.params = s.params := rfl
@[simp] theorem State.replyOkay_reply (s : State) : s.replyOkay.reply = .write .okay := rfl
@[simp] theorem State.replyOkay_schedule (s : State) : s.replyOkay.schedule = s.schedule := rfl
@[simp] theorem State.replyOkay_powerCycles (s : State) : s.replyOkay.powerCycles = s.powerCycles := rfl
@[simp] theorem State.replyOkay_draws (s : State) : s.replyOkay.draws = s.draws := rfl

/-! ### replyData -/

@[simp] theorem State.replyData_irqStatus (s : State) (d : Word) : (s.replyData d).irqStatus = s.irqStatus := rfl
@[simp] theorem State.replyData_irqEnable (s : State) (d : Word) : (s.replyData d).irqEnable = s.irqEnable := rfl
@[simp] theorem State.replyData_enc (s : State) (d : Word) : (s.replyData d).enc = s.enc := rfl
@[simp] theorem State.replyData_det (s : State) (d : Word) : (s.replyData d).det = s.det := rfl
@[simp] theorem State.replyData_acc (s : State) (d : Word) : (s.replyData d).acc = s.acc := rfl
@[simp] theorem State.replyData_mem (s : State) (d : Word) : (s.replyData d).mem = s.mem := rfl
@[simp] theorem State.replyData_rst (s : State) (d : Word) : (s.replyData d).rst = s.rst := rfl
@[simp] theorem State.replyData_params (s : State) (d : Word) : (s.replyData d).params = s.params := rfl
@[simp] theorem State.replyData_reply (s : State) (d : Word) : (s.replyData d).reply = .read .okay d := rfl
@[simp] theorem State.replyData_schedule (s : State) (d : Word) : (s.replyData d).schedule = s.schedule := rfl
@[simp] theorem State.replyData_powerCycles (s : State) (d : Word) : (s.replyData d).powerCycles = s.powerCycles := rfl
@[simp] theorem State.replyData_draws (s : State) (d : Word) : (s.replyData d).draws = s.draws := rfl

/-! ### irqSet -/

@[simp] theorem State.irqSet_irqStatus (s : State) (i : IrqSource) : (s.irqSet i).irqStatus = s.irqStatus ||| (1#5 <<< i.bit) := rfl
@[simp] theorem State.irqSet_irqEnable (s : State) (i : IrqSource) : (s.irqSet i).irqEnable = s.irqEnable := rfl
@[simp] theorem State.irqSet_enc (s : State) (i : IrqSource) : (s.irqSet i).enc = s.enc := rfl
@[simp] theorem State.irqSet_det (s : State) (i : IrqSource) : (s.irqSet i).det = s.det := rfl
@[simp] theorem State.irqSet_acc (s : State) (i : IrqSource) : (s.irqSet i).acc = s.acc := rfl
@[simp] theorem State.irqSet_mem (s : State) (i : IrqSource) : (s.irqSet i).mem = s.mem := rfl
@[simp] theorem State.irqSet_rst (s : State) (i : IrqSource) : (s.irqSet i).rst = s.rst := rfl
@[simp] theorem State.irqSet_params (s : State) (i : IrqSource) : (s.irqSet i).params = s.params := rfl
@[simp] theorem State.irqSet_reply (s : State) (i : IrqSource) : (s.irqSet i).reply = s.reply := rfl
@[simp] theorem State.irqSet_schedule (s : State) (i : IrqSource) : (s.irqSet i).schedule = s.schedule := rfl
@[simp] theorem State.irqSet_powerCycles (s : State) (i : IrqSource) : (s.irqSet i).powerCycles = s.powerCycles := rfl
@[simp] theorem State.irqSet_draws (s : State) (i : IrqSource) : (s.irqSet i).draws = s.draws := rfl

/-! ### raiseBusError: nothing but the reply changes (R292) -/

@[simp] theorem State.raiseBusError_irqStatus (s : State) (dir : Direction) : (s.raiseBusError dir).irqStatus = s.irqStatus := by
  cases dir <;> rfl
@[simp] theorem State.raiseBusError_irqEnable (s : State) (dir : Direction) : (s.raiseBusError dir).irqEnable = s.irqEnable := by
  cases dir <;> rfl
@[simp] theorem State.raiseBusError_enc (s : State) (dir : Direction) : (s.raiseBusError dir).enc = s.enc := by
  cases dir <;> rfl
@[simp] theorem State.raiseBusError_det (s : State) (dir : Direction) : (s.raiseBusError dir).det = s.det := by
  cases dir <;> rfl
@[simp] theorem State.raiseBusError_acc (s : State) (dir : Direction) : (s.raiseBusError dir).acc = s.acc := by
  cases dir <;> rfl
@[simp] theorem State.raiseBusError_mem (s : State) (dir : Direction) : (s.raiseBusError dir).mem = s.mem := by
  cases dir <;> rfl
@[simp] theorem State.raiseBusError_rst (s : State) (dir : Direction) : (s.raiseBusError dir).rst = s.rst := by
  cases dir <;> rfl
@[simp] theorem State.raiseBusError_params (s : State) (dir : Direction) : (s.raiseBusError dir).params = s.params := by
  cases dir <;> rfl
@[simp] theorem State.raiseBusError_schedule (s : State) (dir : Direction) : (s.raiseBusError dir).schedule = s.schedule := by
  cases dir <;> rfl
@[simp] theorem State.raiseBusError_powerCycles (s : State) (dir : Direction) : (s.raiseBusError dir).powerCycles = s.powerCycles := by
  cases dir <;> rfl
@[simp] theorem State.raiseBusError_draws (s : State) (dir : Direction) : (s.raiseBusError dir).draws = s.draws := by
  cases dir <;> rfl

@[simp] theorem State.raiseBusError_read (s : State) : (s.raiseBusError .read).reply = .read .error 0 := rfl
@[simp] theorem State.raiseBusError_write (s : State) : (s.raiseBusError .write).reply = .write .error := rfl

end Machine

end Sys2Proof
end

