-- ==== Sys2Proof/Laws/Memory.lean ====
section
/-!
SUPPORT. The laws of the sparse memory: a read after a write, the canonical form, and the footprint of a multi-byte
write. Memory operations are never unfolded outside this file.
-/

namespace Sys2Proof.Machine

open Sys2Proof.Config

/-! ### One byte -/

/-- A read after a write to the same address gives the value written. -/
@[simp] theorem Memory.lookup_write_same (m : Memory) (a : Nat) (b : Byte) : (m.write a b).lookup a = some b := by
  induction m with
  | nil => simp [Memory.write, Memory.lookup]
  | cons c m ih =>
    obtain ⟨k, v⟩ := c
    by_cases h1 : a = k
    · simp [Memory.write, Memory.lookup, h1]
    · by_cases h2 : a < k
      · simp [Memory.write, Memory.lookup, h1, h2]
      · simp [Memory.write, Memory.lookup, h1, h2, ih]

/-- A write leaves every other address alone. -/
theorem Memory.lookup_write_ne (m : Memory) {a c : Nat} (b : Byte) (h : c ≠ a) :
    (m.write a b).lookup c = m.lookup c := by
  induction m with
  | nil =>
    simp only [Memory.write, Memory.lookup, h, if_false]
    split <;> rfl
  | cons x m ih =>
    obtain ⟨k, v⟩ := x
    by_cases h1 : a = k
    · subst h1
      simp [Memory.write, Memory.lookup, h]
    · by_cases h2 : a < k
      · simp only [Memory.write, h1, h2, if_true, if_false, Memory.lookup, h]
        by_cases h3 : c < a
        · have h4 : c < k := by omega
          have h5 : c ≠ k := by omega
          simp [h3, h4, h5]
        · simp [h3]
      · simp [Memory.write, Memory.lookup, h1, h2, ih]

/-- The addresses of a memory after a write: the old ones and the written one. -/
theorem Memory.mem_write {m : Memory} {a : Nat} {b : Byte} {c : Host.Cell} (h : c ∈ m.write a b) :
    c = (a, b) ∨ c ∈ m := by
  induction m with
  | nil => exact .inl (by simpa [Memory.write] using h)
  | cons x m ih =>
    obtain ⟨k, v⟩ := x
    by_cases h1 : a = k
    · simp only [Memory.write, h1, if_true, List.mem_cons] at h
      rcases h with h | h
      · exact .inl (by rw [h, h1])
      · exact .inr (List.mem_cons_of_mem _ h)
    · by_cases h2 : a < k
      · simpa [Memory.write, h1, h2] using h
      · simp only [Memory.write, h1, h2, if_false, List.mem_cons] at h
        rcases h with h | h
        · exact .inr (by simp [h])
        · exact (ih h).imp id (List.mem_cons_of_mem _)

/-- The canonical form, one cell at a time. -/
theorem Memory.wf_cons (x : Host.Cell) (m : Memory) :
    Memory.wf (x :: m) = true ↔ (∀ c ∈ m.head?, x.1 < c.1) ∧ m.wf = true := by
  cases m <;> simp [Memory.wf]

/-- In the canonical form every later address is above the first. -/
theorem Memory.lt_of_wf {x : Host.Cell} {m : Memory} (h : Memory.wf (x :: m) = true) : ∀ c ∈ m, x.1 < c.1 := by
  induction m generalizing x with
  | nil => simp
  | cons y m ih =>
    rw [Memory.wf_cons] at h
    intro c hc
    have hxy : x.1 < y.1 := h.1 y rfl
    rcases List.mem_cons.mp hc with rfl | hc
    · exact hxy
    · exact lt_trans hxy (ih h.2 c hc)

theorem Memory.head_write (m : Memory) (a : Nat) (b : Byte) :
    ∀ c ∈ (m.write a b).head?, c.1 = a ∨ c ∈ m.head? := by
  cases m with
  | nil => simp [Memory.write]
  | cons x m =>
    obtain ⟨k, v⟩ := x
    intro c hc
    by_cases h1 : a = k
    · simp only [Memory.write, h1, if_true, List.head?_cons, Option.mem_def, Option.some.injEq] at hc
      exact .inl (by rw [← hc, h1])
    · by_cases h2 : a < k
      · simp only [Memory.write, h1, h2, if_true, if_false, List.head?_cons, Option.mem_def,
          Option.some.injEq] at hc
        exact .inl (by rw [← hc])
      · simp only [Memory.write, h1, h2, if_false, List.head?_cons, Option.mem_def, Option.some.injEq] at hc
        exact .inr (by simp [hc])

/-- A write keeps the canonical form. -/
theorem Memory.wf_write {m : Memory} (a : Nat) (b : Byte) (h : m.wf = true) : (m.write a b).wf = true := by
  induction m with
  | nil => rfl
  | cons x m ih =>
    obtain ⟨k, v⟩ := x
    have hm := ((Memory.wf_cons _ _).mp h).2
    by_cases h1 : a = k
    · subst h1
      simp only [Memory.write, if_true]
      rw [Memory.wf_cons] at h ⊢
      exact h
    · by_cases h2 : a < k
      · simp only [Memory.write, h1, h2, if_true, if_false]
        rw [Memory.wf_cons]
        exact ⟨by simpa using h2, h⟩
      · simp only [Memory.write, h1, h2, if_false]
        rw [Memory.wf_cons]
        refine ⟨fun c hc => ?_, ih hm⟩
        rcases Memory.head_write m a b c hc with hc | hc
        · change k < c.1
          omega
        · exact ((Memory.wf_cons _ _).mp h).1 c hc

/-! ### Several bytes -/

/-- A multi-byte write keeps the canonical form. -/
theorem Memory.wf_writeLE {m : Memory} (a : Nat) (v : Word) (n : Nat) (h : m.wf = true) :
    (m.writeLE a v n).wf = true := by
  induction n generalizing m a v with
  | zero => exact h
  | succ n ih => exact ih _ _ (Memory.wf_write _ _ h)

/-- A multi-byte write leaves every byte outside it alone. -/
theorem Memory.lookup_writeLE_outside (m : Memory) (a : Nat) (v : Word) (n c : Nat) (h : c < a ∨ a + n ≤ c) :
    (m.writeLE a v n).lookup c = m.lookup c := by
  induction n generalizing m a v with
  | zero => rfl
  | succ n ih =>
    rw [Memory.writeLE, ih _ _ _ (by omega)]
    exact Memory.lookup_write_ne _ _ (by omega)

/-- Byte k of a multi-byte write is byte k of the value (R97). -/
theorem Memory.lookup_writeLE_byte (m : Memory) (a : Nat) (v : Word) (n k : Nat) (h : k < n) :
    (m.writeLE a v n).lookup (a + k) = some ((v >>> (8 * k)).setWidth 8) := by
  induction n generalizing m a v k with
  | zero => omega
  | succ n ih =>
    rw [Memory.writeLE]
    cases k with
    | zero => rw [Memory.lookup_writeLE_outside _ _ _ _ _ (by omega)]; simp
    | succ k =>
      have e : a + (k + 1) = a + 1 + k := by omega
      rw [e, ih _ _ _ _ (by omega), ← BitVec.shiftRight_add, show 8 + 8 * k = 8 * (k + 1) by omega]

/-- The cells of a memory after a multi-byte write: the old ones and those inside it. -/
theorem Memory.mem_writeLE {m : Memory} {a : Nat} {v : Word} {n : Nat} {c : Host.Cell}
    (h : c ∈ m.writeLE a v n) : (a ≤ c.1 ∧ c.1 < a + n) ∨ c ∈ m := by
  induction n generalizing m a v with
  | zero => exact .inr h
  | succ n ih =>
    rcases ih h with h | h
    · exact .inl (by omega)
    · rcases Memory.mem_write h with h | h
      · exact .inl (by rw [h]; omega)
      · exact .inr h

/-! ### Reading through the state -/

/-- Reading a byte depends only on the memory and the power cycle. -/
theorem State.readByte_congr {s t : State} {a : Nat} (hm : t.mem.lookup a = s.mem.lookup a)
    (hp : t.powerCycles = s.powerCycles) : t.readByte a = s.readByte a := by
  simp only [State.readByte, hm, hp]

/-- The bytes from an address on are written as long as each of them is. -/
theorem Memory.writtenBytes_congr {m m' : Memory} {a n : Nat}
    (h : ∀ c, a ≤ c → c < a + n → m'.lookup c = m.lookup c) : m'.writtenBytes a n = m.writtenBytes a n := by
  induction n generalizing a with
  | zero => rfl
  | succ n ih =>
    simp only [Memory.writtenBytes]
    rw [h a (le_refl _) (by omega), ih fun c h1 h2 => h c (by omega) (by omega)]

/-- Writing the byte after a run of written bytes extends the run. -/
theorem Memory.writtenBytes_snoc {m : Memory} {a n : Nat} {bs : List Byte} (b : Byte)
    (h : m.writtenBytes a n = some bs) :
    (m.write (a + n) b).writtenBytes a (n + 1) = some (bs ++ [b]) := by
  induction n generalizing a bs with
  | zero =>
    simp only [Memory.writtenBytes, Option.some.injEq] at h
    subst h
    simp [Memory.writtenBytes]
  | succ n ih =>
    rw [Memory.writtenBytes]
    rw [Memory.writtenBytes] at h
    rw [Memory.lookup_write_ne _ _ (by omega)]
    cases hl : m.lookup a with
    | none => simp [hl] at h
    | some x =>
      cases hr : m.writtenBytes (a + 1) n with
      | none => simp [hl, hr] at h
      | some r =>
        simp only [hl, hr, Option.some.injEq] at h
        have e : a + (n + 1) = a + 1 + n := by omega
        rw [e, ih hr, ← h]
        rfl

end Sys2Proof.Machine
end

