-- ==== Sys2Proof/Laws/Ops.lean ====
section
/-!
SUPPORT. What each shared operation can do, said once: the fields it leaves alone as simp lemmas, and the cases it
has as one lemma. Later proofs cite these and do not unfold the operation.
-/

namespace Sys2Proof.Machine

open Sys2Proof.Config

/-! ### The accumulator's operations leave the other blocks alone -/

@[simp] theorem State.storeByte_irqEnable (s : State) (b : Byte) : (s.storeByte b).irqEnable = s.irqEnable := by
  unfold State.storeByte; split <;> simp
@[simp] theorem State.storeByte_enc (s : State) (b : Byte) : (s.storeByte b).enc = s.enc := by
  unfold State.storeByte; split <;> simp
@[simp] theorem State.storeByte_det (s : State) (b : Byte) : (s.storeByte b).det = s.det := by
  unfold State.storeByte; split <;> simp
@[simp] theorem State.storeByte_rst (s : State) (b : Byte) : (s.storeByte b).rst = s.rst := by
  unfold State.storeByte; split <;> simp
@[simp] theorem State.storeByte_params (s : State) (b : Byte) : (s.storeByte b).params = s.params := by
  unfold State.storeByte; split <;> simp
@[simp] theorem State.storeByte_reply (s : State) (b : Byte) : (s.storeByte b).reply = s.reply := by
  unfold State.storeByte; split <;> simp
@[simp] theorem State.storeByte_schedule (s : State) (b : Byte) : (s.storeByte b).schedule = s.schedule := by
  unfold State.storeByte; split <;> simp
@[simp] theorem State.storeByte_powerCycles (s : State) (b : Byte) : (s.storeByte b).powerCycles = s.powerCycles := by
  unfold State.storeByte; split <;> simp
@[simp] theorem State.storeByte_draws (s : State) (b : Byte) : (s.storeByte b).draws = s.draws := by
  unfold State.storeByte; split <;> simp

@[simp] theorem State.assembleNibble_irqEnable (s : State) (x : Nibble) : (s.assembleNibble x).irqEnable = s.irqEnable := by
  unfold State.assembleNibble; split <;> simp
@[simp] theorem State.assembleNibble_enc (s : State) (x : Nibble) : (s.assembleNibble x).enc = s.enc := by
  unfold State.assembleNibble; split <;> simp
@[simp] theorem State.assembleNibble_det (s : State) (x : Nibble) : (s.assembleNibble x).det = s.det := by
  unfold State.assembleNibble; split <;> simp
@[simp] theorem State.assembleNibble_rst (s : State) (x : Nibble) : (s.assembleNibble x).rst = s.rst := by
  unfold State.assembleNibble; split <;> simp
@[simp] theorem State.assembleNibble_params (s : State) (x : Nibble) : (s.assembleNibble x).params = s.params := by
  unfold State.assembleNibble; split <;> simp
@[simp] theorem State.assembleNibble_reply (s : State) (x : Nibble) : (s.assembleNibble x).reply = s.reply := by
  unfold State.assembleNibble; split <;> simp
@[simp] theorem State.assembleNibble_schedule (s : State) (x : Nibble) : (s.assembleNibble x).schedule = s.schedule := by
  unfold State.assembleNibble; split <;> simp
@[simp] theorem State.assembleNibble_powerCycles (s : State) (x : Nibble) : (s.assembleNibble x).powerCycles = s.powerCycles := by
  unfold State.assembleNibble; split <;> simp
@[simp] theorem State.assembleNibble_draws (s : State) (x : Nibble) : (s.assembleNibble x).draws = s.draws := by
  unfold State.assembleNibble; split <;> simp

@[simp] theorem State.acceptNibble_irqEnable (s : State) (x : Nibble) : (s.acceptNibble x).irqEnable = s.irqEnable := by
  unfold State.acceptNibble; split <;> simp
@[simp] theorem State.acceptNibble_enc (s : State) (x : Nibble) : (s.acceptNibble x).enc = s.enc := by
  unfold State.acceptNibble; split <;> simp
@[simp] theorem State.acceptNibble_det (s : State) (x : Nibble) : (s.acceptNibble x).det = s.det := by
  unfold State.acceptNibble; split <;> simp
@[simp] theorem State.acceptNibble_rst (s : State) (x : Nibble) : (s.acceptNibble x).rst = s.rst := by
  unfold State.acceptNibble; split <;> simp
@[simp] theorem State.acceptNibble_params (s : State) (x : Nibble) : (s.acceptNibble x).params = s.params := by
  unfold State.acceptNibble; split <;> simp
@[simp] theorem State.acceptNibble_reply (s : State) (x : Nibble) : (s.acceptNibble x).reply = s.reply := by
  unfold State.acceptNibble; split <;> simp
@[simp] theorem State.acceptNibble_schedule (s : State) (x : Nibble) : (s.acceptNibble x).schedule = s.schedule := by
  unfold State.acceptNibble; split <;> simp
@[simp] theorem State.acceptNibble_powerCycles (s : State) (x : Nibble) : (s.acceptNibble x).powerCycles = s.powerCycles := by
  unfold State.acceptNibble; split <;> simp
@[simp] theorem State.acceptNibble_draws (s : State) (x : Nibble) : (s.acceptNibble x).draws = s.draws := by
  unfold State.acceptNibble; split <;> simp

@[simp] theorem State.emitNibble_irqEnable (s : State) (x : Nibble) : (s.emitNibble x).irqEnable = s.irqEnable := by
  simp [State.emitNibble]
@[simp] theorem State.emitNibble_enc (s : State) (x : Nibble) : (s.emitNibble x).enc = s.enc := by
  simp [State.emitNibble]
@[simp] theorem State.emitNibble_det (s : State) (x : Nibble) : (s.emitNibble x).det = s.det := by
  simp [State.emitNibble]
@[simp] theorem State.emitNibble_rst (s : State) (x : Nibble) : (s.emitNibble x).rst = s.rst := by
  simp [State.emitNibble]
@[simp] theorem State.emitNibble_params (s : State) (x : Nibble) : (s.emitNibble x).params = s.params := by
  simp [State.emitNibble]
@[simp] theorem State.emitNibble_reply (s : State) (x : Nibble) : (s.emitNibble x).reply = s.reply := by
  simp [State.emitNibble]
@[simp] theorem State.emitNibble_schedule (s : State) (x : Nibble) : (s.emitNibble x).schedule = s.schedule := by
  simp [State.emitNibble]
@[simp] theorem State.emitNibble_powerCycles (s : State) (x : Nibble) : (s.emitNibble x).powerCycles = s.powerCycles := by
  simp [State.emitNibble]
@[simp] theorem State.emitNibble_draws (s : State) (x : Nibble) : (s.emitNibble x).draws = s.draws := by
  simp [State.emitNibble]

@[simp] theorem State.frameClose_irqEnable (s : State) : s.frameClose.irqEnable = s.irqEnable := by
  unfold State.frameClose; split <;> simp
@[simp] theorem State.frameClose_enc (s : State) : s.frameClose.enc = s.enc := by
  unfold State.frameClose; split <;> simp
@[simp] theorem State.frameClose_det (s : State) : s.frameClose.det = s.det := by
  unfold State.frameClose; split <;> simp
@[simp] theorem State.frameClose_rst (s : State) : s.frameClose.rst = s.rst := by
  unfold State.frameClose; split <;> simp
@[simp] theorem State.frameClose_params (s : State) : s.frameClose.params = s.params := by
  unfold State.frameClose; split <;> simp
@[simp] theorem State.frameClose_reply (s : State) : s.frameClose.reply = s.reply := by
  unfold State.frameClose; split <;> simp
@[simp] theorem State.frameClose_schedule (s : State) : s.frameClose.schedule = s.schedule := by
  unfold State.frameClose; split <;> simp
@[simp] theorem State.frameClose_powerCycles (s : State) : s.frameClose.powerCycles = s.powerCycles := by
  unfold State.frameClose; split <;> simp
@[simp] theorem State.frameClose_draws (s : State) : s.frameClose.draws = s.draws := by
  unfold State.frameClose; split <;> simp

@[simp] theorem State.finishSym_irqEnable (s : State) (e : Bool) (x : Nibble) : (s.finishSym e x).irqEnable = s.irqEnable := by
  unfold State.finishSym; split <;> simp
@[simp] theorem State.finishSym_enc (s : State) (e : Bool) (x : Nibble) : (s.finishSym e x).enc = s.enc := by
  unfold State.finishSym; split <;> simp
@[simp] theorem State.finishSym_det (s : State) (e : Bool) (x : Nibble) : (s.finishSym e x).det = s.det := by
  unfold State.finishSym; split <;> simp
@[simp] theorem State.finishSym_rst (s : State) (e : Bool) (x : Nibble) : (s.finishSym e x).rst = s.rst := by
  unfold State.finishSym; split <;> simp
@[simp] theorem State.finishSym_params (s : State) (e : Bool) (x : Nibble) : (s.finishSym e x).params = s.params := by
  unfold State.finishSym; split <;> simp
@[simp] theorem State.finishSym_reply (s : State) (e : Bool) (x : Nibble) : (s.finishSym e x).reply = s.reply := by
  unfold State.finishSym; split <;> simp
@[simp] theorem State.finishSym_schedule (s : State) (e : Bool) (x : Nibble) : (s.finishSym e x).schedule = s.schedule := by
  unfold State.finishSym; split <;> simp
@[simp] theorem State.finishSym_powerCycles (s : State) (e : Bool) (x : Nibble) : (s.finishSym e x).powerCycles = s.powerCycles := by
  unfold State.finishSym; split <;> simp
@[simp] theorem State.finishSym_draws (s : State) (e : Bool) (x : Nibble) : (s.finishSym e x).draws = s.draws := by
  unfold State.finishSym; split <;> simp

@[simp] theorem State.finishNoMatch_irqEnable (s : State) (g : Bool) : (s.finishNoMatch g).irqEnable = s.irqEnable := by
  unfold State.finishNoMatch; split <;> simp
@[simp] theorem State.finishNoMatch_enc (s : State) (g : Bool) : (s.finishNoMatch g).enc = s.enc := by
  unfold State.finishNoMatch; split <;> simp
@[simp] theorem State.finishNoMatch_det (s : State) (g : Bool) : (s.finishNoMatch g).det = s.det := by
  unfold State.finishNoMatch; split <;> simp
@[simp] theorem State.finishNoMatch_rst (s : State) (g : Bool) : (s.finishNoMatch g).rst = s.rst := by
  unfold State.finishNoMatch; split <;> simp
@[simp] theorem State.finishNoMatch_params (s : State) (g : Bool) : (s.finishNoMatch g).params = s.params := by
  unfold State.finishNoMatch; split <;> simp
@[simp] theorem State.finishNoMatch_reply (s : State) (g : Bool) : (s.finishNoMatch g).reply = s.reply := by
  unfold State.finishNoMatch; split <;> simp
@[simp] theorem State.finishNoMatch_schedule (s : State) (g : Bool) : (s.finishNoMatch g).schedule = s.schedule := by
  unfold State.finishNoMatch; split <;> simp
@[simp] theorem State.finishNoMatch_powerCycles (s : State) (g : Bool) : (s.finishNoMatch g).powerCycles = s.powerCycles := by
  unfold State.finishNoMatch; split <;> simp
@[simp] theorem State.finishNoMatch_draws (s : State) (g : Bool) : (s.finishNoMatch g).draws = s.draws := by
  unfold State.finishNoMatch; split <;> simp

@[simp] theorem State.accStep_irqEnable (s : State) (r : SlotResult) : (s.accStep r).irqEnable = s.irqEnable := by
  cases r <;> simp [State.accStep]
@[simp] theorem State.accStep_enc (s : State) (r : SlotResult) : (s.accStep r).enc = s.enc := by
  cases r <;> simp [State.accStep]
@[simp] theorem State.accStep_det (s : State) (r : SlotResult) : (s.accStep r).det = s.det := by
  cases r <;> simp [State.accStep]
@[simp] theorem State.accStep_rst (s : State) (r : SlotResult) : (s.accStep r).rst = s.rst := by
  cases r <;> simp [State.accStep]
@[simp] theorem State.accStep_params (s : State) (r : SlotResult) : (s.accStep r).params = s.params := by
  cases r <;> simp [State.accStep]
@[simp] theorem State.accStep_reply (s : State) (r : SlotResult) : (s.accStep r).reply = s.reply := by
  cases r <;> simp [State.accStep]
@[simp] theorem State.accStep_schedule (s : State) (r : SlotResult) : (s.accStep r).schedule = s.schedule := by
  cases r <;> simp [State.accStep]
@[simp] theorem State.accStep_powerCycles (s : State) (r : SlotResult) : (s.accStep r).powerCycles = s.powerCycles := by
  cases r <;> simp [State.accStep]
@[simp] theorem State.accStep_draws (s : State) (r : SlotResult) : (s.accStep r).draws = s.draws := by
  cases r <;> simp [State.accStep]

@[simp] theorem State.ackFrame_irqEnable (s : State) : s.ackFrame.irqEnable = s.irqEnable := by
  unfold State.ackFrame; split <;> simp
@[simp] theorem State.ackFrame_enc (s : State) : s.ackFrame.enc = s.enc := by
  unfold State.ackFrame; split <;> simp
@[simp] theorem State.ackFrame_det (s : State) : s.ackFrame.det = s.det := by
  unfold State.ackFrame; split <;> simp
@[simp] theorem State.ackFrame_rst (s : State) : s.ackFrame.rst = s.rst := by
  unfold State.ackFrame; split <;> simp
@[simp] theorem State.ackFrame_params (s : State) : s.ackFrame.params = s.params := by
  unfold State.ackFrame; split <;> simp
@[simp] theorem State.ackFrame_reply (s : State) : s.ackFrame.reply = s.reply := by
  unfold State.ackFrame; split <;> simp
@[simp] theorem State.ackFrame_schedule (s : State) : s.ackFrame.schedule = s.schedule := by
  unfold State.ackFrame; split <;> simp
@[simp] theorem State.ackFrame_powerCycles (s : State) : s.ackFrame.powerCycles = s.powerCycles := by
  unfold State.ackFrame; split <;> simp
@[simp] theorem State.ackFrame_draws (s : State) : s.ackFrame.draws = s.draws := by
  unfold State.ackFrame; split <;> simp

/-! ### START leaves everything but the encoder and IRQ_STATUS alone (R178, R179) -/

@[simp] theorem State.startRender_irqEnable (s : State) (c : Bool) : (s.startRender c).irqEnable = s.irqEnable := by
  unfold State.startRender State.startWith; split <;> (try split) <;> (try split) <;> simp
@[simp] theorem State.startRender_det (s : State) (c : Bool) : (s.startRender c).det = s.det := by
  unfold State.startRender State.startWith; split <;> (try split) <;> (try split) <;> simp
@[simp] theorem State.startRender_acc (s : State) (c : Bool) : (s.startRender c).acc = s.acc := by
  unfold State.startRender State.startWith; split <;> (try split) <;> (try split) <;> simp
@[simp] theorem State.startRender_mem (s : State) (c : Bool) : (s.startRender c).mem = s.mem := by
  unfold State.startRender State.startWith; split <;> (try split) <;> (try split) <;> simp
@[simp] theorem State.startRender_rst (s : State) (c : Bool) : (s.startRender c).rst = s.rst := by
  unfold State.startRender State.startWith; split <;> (try split) <;> (try split) <;> simp
@[simp] theorem State.startRender_params (s : State) (c : Bool) : (s.startRender c).params = s.params := by
  unfold State.startRender State.startWith; split <;> (try split) <;> (try split) <;> simp
@[simp] theorem State.startRender_reply (s : State) (c : Bool) : (s.startRender c).reply = s.reply := by
  unfold State.startRender State.startWith; split <;> (try split) <;> (try split) <;> simp
@[simp] theorem State.startRender_schedule (s : State) (c : Bool) : (s.startRender c).schedule = s.schedule := by
  unfold State.startRender State.startWith; split <;> (try split) <;> (try split) <;> simp
@[simp] theorem State.startRender_powerCycles (s : State) (c : Bool) : (s.startRender c).powerCycles = s.powerCycles := by
  unfold State.startRender State.startWith; split <;> (try split) <;> (try split) <;> simp
@[simp] theorem State.startRender_draws (s : State) (c : Bool) : (s.startRender c).draws = s.draws := by
  unfold State.startRender State.startWith; split <;> (try split) <;> (try split) <;> simp

/-! ### The cases of each operation -/

/-- A locked write: WERR alone while BUSY, the effect otherwise (R340). -/
theorem State.lockedWrite_cases (s : State) (f : State → State) :
    (s.enc.busy = true ∧ s.lockedWrite f = (s.setEnc { s.enc with werr := true }).replyOkay) ∨
    (s.enc.busy = false ∧ s.lockedWrite f = (f s).replyOkay) := by
  unfold State.lockedWrite
  cases h : s.enc.busy <;> simp

/-- A RAM read: the bytes, or the bus error (R160). -/
theorem ramRead_cases (r : Ram) (w : Width) (i : Nat) (s : State) :
    (ramAccessOk s.params r w i = true ∧
      ramRead r w i s = .next (s.replyData (s.readLE (r.base + i) w.bytes))) ∨
    (ramAccessOk s.params r w i = false ∧ ramRead r w i s = .next (s.raiseBusError .read)) := by
  unfold ramRead
  cases h : ramAccessOk s.params r w i <;> simp

/-- A RAM write: the bus error first, then the lock, then the write (R161, R162). -/
theorem ramWrite_cases (r : Ram) (w : Width) (i : Nat) (v : Word) (s : State) :
    (ramAccessOk s.params r w i = false ∧ ramWrite r w i v s = .next (s.raiseBusError .write)) ∨
    (ramAccessOk s.params r w i = true ∧ s.enc.busy = true ∧
      ramWrite r w i v s = .next (s.setEnc { s.enc with werr := true }).replyOkay) ∨
    (ramAccessOk s.params r w i = true ∧ s.enc.busy = false ∧
      ramWrite r w i v s = .next (s.setMem (s.mem.writeLE (r.base + i) v w.bytes)).replyOkay) := by
  unfold ramWrite State.lockedWrite
  cases h : ramAccessOk s.params r w i <;> cases hb : s.enc.busy <;> simp

/-- StoreByte: the byte is stored, or dropped with RX RAM full (R252, R253). -/
theorem State.storeByte_cases (s : State) (b : Byte) :
    (s.acc.count.toNat < s.params.rxDepth ∧
      s.storeByte b = (s.setMem (s.mem.write (Ram.rx.base + s.acc.count.toNat) b)).setAcc
        { s.acc with count := s.acc.count + 1, crc := crc8Step s.acc.crc b }) ∨
    (s.params.rxDepth ≤ s.acc.count.toNat ∧
      s.storeByte b = (s.setAcc { s.acc with ovf := true }).irqSet .rxLost) := by
  unfold State.storeByte
  by_cases h : s.acc.count.toNat < s.params.rxDepth
  · exact .inl ⟨h, by simp [h]⟩
  · exact .inr ⟨by omega, by simp [h]⟩

/-- Accept(x): discarded while a closed frame waits, held as a high nibble, or completing a byte (R250, R251). -/
theorem State.acceptNibble_cases (s : State) (x : Nibble) :
    (s.acc.frameValid = true ∧ s.acceptNibble x = (s.setAcc { s.acc with lost := true }).irqSet .rxLost) ∨
    (s.acc.frameValid = false ∧
      s.acceptNibble x = ((s.setAcc { s.acc with frameActive := true }).irqSet .rxSym).assembleNibble x) := by
  unfold State.acceptNibble
  cases h : s.acc.frameValid <;> simp

/-- FrameClose: the frame's verdict and RX_FRAME, or the debounce state alone (R266). -/
theorem State.frameClose_cases (s : State) :
    (s.acc.frameActive = true ∧ s.frameClose = (s.setAcc s.acc.closeFrame.clearStream).irqSet .rxFrame) ∨
    (s.acc.frameActive = false ∧ s.frameClose = s.setAcc s.acc.clearStream) := by
  unfold State.frameClose
  cases h : s.acc.frameActive <;> simp

/-- ACC_STEP: the tracked registers, and then the emission of the slot's symbol, the close of the frame, or nothing
more (R240). -/
theorem State.accStep_cases (s : State) (r : SlotResult) :
    let t := s.setAcc ((s.acc.trackRun r).trackGap r)
    s.accStep r = t ∨ (∃ x, r = .sym x ∧ s.accStep r = t.emitNibble x) ∨
      (r = .noMatch ∧ s.acc.frameActive = true ∧ s.accStep r = t.frameClose) := by
  intro t
  cases r with
  | sym x =>
    simp only [State.accStep, State.finishSym]
    split
    · exact .inr (.inl ⟨x, rfl, rfl⟩)
    · exact .inl rfl
  | noMatch =>
    simp only [State.accStep, State.finishNoMatch]
    split
    · rename_i h
      refine .inr (.inr ⟨trivial, ?_, rfl⟩)
      simp only [Bool.and_eq_true] at h
      have := h.2
      simp only [State.setAcc_acc, Acc.trackGap, Acc.trackRun] at this
      revert this
      split <;> split <;> (try split) <;> exact id
    · exact .inl rfl

/-- START with the registers `e`: a rejected configuration, a rejected buffer, the zero-length render, or the
accepted render (R178). -/
theorem State.startWith_cases (s : State) (e : Enc) :
    (cfgCheck s.params e ≠ .none ∧
      s.startWith e =
        (s.setEnc { e with cfgCause := cfgCheck s.params e, errCfg := true, errBuf := false }).irqSet .encErr) ∨
    (cfgCheck s.params e = .none ∧ bufTooSmall s.params e = true ∧
      s.startWith e = (s.setEnc { e with cfgCause := .none, errCfg := false, errBuf := true }).irqSet .encErr) ∨
    (cfgCheck s.params e = .none ∧ bufTooSmall s.params e = false ∧ e.nsamp = 0 ∧
      s.startWith e =
        (s.setEnc { e with cfgCause := .none, errCfg := false, errBuf := false, pos := 0 }).irqSet .encDone) ∨
    (cfgCheck s.params e = .none ∧ bufTooSmall s.params e = false ∧ e.nsamp ≠ 0 ∧
      s.startWith e =
        s.setEnc { e with cfgCause := .none, errCfg := false, errBuf := false, pos := 0, busy := true }) := by
  unfold State.startWith
  cases hc : cfgCheck s.params e <;> cases hb : bufTooSmall s.params e <;> by_cases hn : e.nsamp = 0 <;>
    simp [hn]

/-- ENGINE_STEP: nothing when idle, the sample otherwise, unless it lies outside PCM RAM (R182). -/
theorem execEngineStep_cases {s t : State} (h : execEngineStep s = .next t) :
    (s.enc.busy = false ∧ t = s) ∨
    (s.enc.busy = true ∧ s.enc.startOff.toNat + s.enc.pos.toNat < s.params.pcmDepth ∧
      let u := ((s.setMem (s.mem.writeLE (pcmAddr (s.enc.startOff.toNat + s.enc.pos.toNat))
        (s.engineSample.setWidth 32) 2)).setDraws s.drawsAfterSample).setEnc s.enc.afterSample
      t = if u.enc.busy then u else u.irqSet .encDone) := by
  unfold execEngineStep at h
  cases hb : s.enc.busy with
  | false =>
    simp only [hb, Bool.false_eq_true, if_false, Host.Outcome.next.injEq] at h
    exact .inl ⟨rfl, h.symm⟩
  | true =>
    simp only [hb, if_true] at h
    split at h
    · cases h
    · rename_i hr
      exact .inr ⟨rfl, by omega, (Host.Outcome.next.inj h).symm⟩

/-- ENGINE_STEP stops only where its sample lies outside PCM RAM (log entry 7). -/
theorem execEngineStep_next {s : State}
    (h : s.enc.busy = true → s.enc.startOff.toNat + s.enc.pos.toNat < s.params.pcmDepth) :
    ∃ t, execEngineStep s = .next t := by
  unfold execEngineStep
  cases hb : s.enc.busy with
  | false => exact ⟨s, by simp⟩
  | true =>
    have := h hb
    simp only [if_true, show ¬ s.params.pcmDepth ≤ s.enc.startOff.toNat + s.enc.pos.toNat by omega, if_false]
    exact ⟨_, rfl⟩

end Sys2Proof.Machine
end

