-- ==== Sys2Proof/Laws/PerInstr.lean ====
section
/-!
SUPPORT. Statements about instructions as syntax, one lemma per constructor.
-/

namespace Sys2Proof.Laws

/-- The encoder spells a transaction as R120 and R121 do: the data bits it does not carry are 0. -/
def EncodesCanonically.Statement (i : Instr) : Prop := ∀ t, encode i = some t → t.canonical = true

theorem encodes_read {f : Format} {a : Word} {t : Txn} (h : readTxn f a = some t)
    (hf : f = .rd8 ∨ f = .rd16 ∨ f = .rd32) : t.canonical = true := by
  cases h
  rcases hf with rfl | rfl | rfl <;> rfl

theorem encodes_write32 {a d : Word} {t : Txn} (h : writeTxn .wr32 a d = some t) : t.canonical = true := by
  cases h
  rfl

theorem encodes_write16 {a : Word} {d : Half} {t : Txn} (h : writeTxn .wr16 a d = some t) :
    t.canonical = true := by
  cases h
  simp [Txn.canonical]

theorem encodes_write8 {a : Word} {d : Byte} {t : Txn} (h : writeTxn .wr8 a d = some t) : t.canonical = true := by
  cases h
  simp [Txn.canonical]

theorem EncodesCanonically.rdId : EncodesCanonically.Statement .rdId :=
  fun _ h => encodes_read h (.inr (.inr rfl))
theorem EncodesCanonically.wrId (d : Word) : EncodesCanonically.Statement (.wrId d) :=
  fun _ h => encodes_write32 h
theorem EncodesCanonically.rdCtrl : EncodesCanonically.Statement .rdCtrl :=
  fun _ h => encodes_read h (.inr (.inr rfl))
theorem EncodesCanonically.srst (d : Word) : EncodesCanonically.Statement (.srst d) :=
  fun _ h => encodes_write32 h
theorem EncodesCanonically.wrCtrlNop (d : Word) : EncodesCanonically.Statement (.wrCtrlNop d) :=
  fun _ h => encodes_write32 h
theorem EncodesCanonically.rdIrqStatus : EncodesCanonically.Statement .rdIrqStatus :=
  fun _ h => encodes_read h (.inr (.inr rfl))
theorem EncodesCanonically.wrIrqStatus (d : Word) : EncodesCanonically.Statement (.wrIrqStatus d) :=
  fun _ h => encodes_write32 h
theorem EncodesCanonically.rdIrqEnable : EncodesCanonically.Statement .rdIrqEnable :=
  fun _ h => encodes_read h (.inr (.inr rfl))
theorem EncodesCanonically.wrIrqEnable (d : Word) : EncodesCanonically.Statement (.wrIrqEnable d) :=
  fun _ h => encodes_write32 h
theorem EncodesCanonically.rdTxDepthR : EncodesCanonically.Statement .rdTxDepthR :=
  fun _ h => encodes_read h (.inr (.inr rfl))
theorem EncodesCanonically.wrTxDepthR (d : Word) : EncodesCanonically.Statement (.wrTxDepthR d) :=
  fun _ h => encodes_write32 h
theorem EncodesCanonically.rdRxDepthR : EncodesCanonically.Statement .rdRxDepthR :=
  fun _ h => encodes_read h (.inr (.inr rfl))
theorem EncodesCanonically.wrRxDepthR (d : Word) : EncodesCanonically.Statement (.wrRxDepthR d) :=
  fun _ h => encodes_write32 h
theorem EncodesCanonically.rdPcmDepthR : EncodesCanonically.Statement .rdPcmDepthR :=
  fun _ h => encodes_read h (.inr (.inr rfl))
theorem EncodesCanonically.wrPcmDepthR (d : Word) : EncodesCanonically.Statement (.wrPcmDepthR d) :=
  fun _ h => encodes_write32 h
theorem EncodesCanonically.rdEncCtrl : EncodesCanonically.Statement .rdEncCtrl :=
  fun _ h => encodes_read h (.inr (.inr rfl))
theorem EncodesCanonically.encStart (d : Word) : EncodesCanonically.Statement (.encStart d) :=
  fun _ h => encodes_write32 h
theorem EncodesCanonically.wrEncCtrl (d : Word) : EncodesCanonically.Statement (.wrEncCtrl d) :=
  fun _ h => encodes_write32 h
theorem EncodesCanonically.rdEncStatus : EncodesCanonically.Statement .rdEncStatus :=
  fun _ h => encodes_read h (.inr (.inr rfl))
theorem EncodesCanonically.wrEncStatus (d : Word) : EncodesCanonically.Statement (.wrEncStatus d) :=
  fun _ h => encodes_write32 h
theorem EncodesCanonically.rdEncSpw : EncodesCanonically.Statement .rdEncSpw :=
  fun _ h => encodes_read h (.inr (.inr rfl))
theorem EncodesCanonically.wrEncSpw (d : Word) : EncodesCanonically.Statement (.wrEncSpw d) :=
  fun _ h => encodes_write32 h
theorem EncodesCanonically.rdEncAmp : EncodesCanonically.Statement .rdEncAmp :=
  fun _ h => encodes_read h (.inr (.inr rfl))
theorem EncodesCanonically.wrEncAmp (d : Word) : EncodesCanonically.Statement (.wrEncAmp d) :=
  fun _ h => encodes_write32 h
theorem EncodesCanonically.rdEncStartOff : EncodesCanonically.Statement .rdEncStartOff :=
  fun _ h => encodes_read h (.inr (.inr rfl))
theorem EncodesCanonically.wrEncStartOff (d : Word) : EncodesCanonically.Statement (.wrEncStartOff d) :=
  fun _ h => encodes_write32 h
theorem EncodesCanonically.rdEncLen : EncodesCanonically.Statement .rdEncLen :=
  fun _ h => encodes_read h (.inr (.inr rfl))
theorem EncodesCanonically.wrEncLen (d : Word) : EncodesCanonically.Statement (.wrEncLen d) :=
  fun _ h => encodes_write32 h
theorem EncodesCanonically.rdEncNsamp : EncodesCanonically.Statement .rdEncNsamp :=
  fun _ h => encodes_read h (.inr (.inr rfl))
theorem EncodesCanonically.wrEncNsamp (d : Word) : EncodesCanonically.Statement (.wrEncNsamp d) :=
  fun _ h => encodes_write32 h
theorem EncodesCanonically.rdEncPos : EncodesCanonically.Statement .rdEncPos :=
  fun _ h => encodes_read h (.inr (.inr rfl))
theorem EncodesCanonically.wrEncPos (d : Word) : EncodesCanonically.Statement (.wrEncPos d) :=
  fun _ h => encodes_write32 h
theorem EncodesCanonically.rdEncInc (k : Fin 8) : EncodesCanonically.Statement (.rdEncInc k) :=
  fun _ h => encodes_read h (.inr (.inr rfl))
theorem EncodesCanonically.wrEncInc (k : Fin 8) (d : Word) : EncodesCanonically.Statement (.wrEncInc k d) :=
  fun _ h => encodes_write32 h
theorem EncodesCanonically.rdDetPush : EncodesCanonically.Statement .rdDetPush :=
  fun _ h => encodes_read h (.inr (.inr rfl))
theorem EncodesCanonically.detPush (d : Word) : EncodesCanonically.Statement (.detPush d) :=
  fun _ h => encodes_write32 h
theorem EncodesCanonically.wrDetPushNop (d : Word) : EncodesCanonically.Statement (.wrDetPushNop d) :=
  fun _ h => encodes_write32 h
theorem EncodesCanonically.rdDetThresh : EncodesCanonically.Statement .rdDetThresh :=
  fun _ h => encodes_read h (.inr (.inr rfl))
theorem EncodesCanonically.wrDetThresh (d : Word) : EncodesCanonically.Statement (.wrDetThresh d) :=
  fun _ h => encodes_write32 h
theorem EncodesCanonically.rdDetFloor : EncodesCanonically.Statement .rdDetFloor :=
  fun _ h => encodes_read h (.inr (.inr rfl))
theorem EncodesCanonically.wrDetFloor (d : Word) : EncodesCanonically.Statement (.wrDetFloor d) :=
  fun _ h => encodes_write32 h
theorem EncodesCanonically.rdDetResult : EncodesCanonically.Statement .rdDetResult :=
  fun _ h => encodes_read h (.inr (.inr rfl))
theorem EncodesCanonically.wrDetResult (d : Word) : EncodesCanonically.Statement (.wrDetResult d) :=
  fun _ h => encodes_write32 h
theorem EncodesCanonically.rdDetDom : EncodesCanonically.Statement .rdDetDom :=
  fun _ h => encodes_read h (.inr (.inr rfl))
theorem EncodesCanonically.wrDetDom (d : Word) : EncodesCanonically.Statement (.wrDetDom d) :=
  fun _ h => encodes_write32 h
theorem EncodesCanonically.rdDetSlots : EncodesCanonically.Statement .rdDetSlots :=
  fun _ h => encodes_read h (.inr (.inr rfl))
theorem EncodesCanonically.wrDetSlots (d : Word) : EncodesCanonically.Statement (.wrDetSlots d) :=
  fun _ h => encodes_write32 h
theorem EncodesCanonically.rdDetLevel (i : Fin 8) : EncodesCanonically.Statement (.rdDetLevel i) :=
  fun _ h => encodes_read h (.inr (.inr rfl))
theorem EncodesCanonically.wrDetLevel (i : Fin 8) (d : Word) : EncodesCanonically.Statement (.wrDetLevel i d) :=
  fun _ h => encodes_write32 h
theorem EncodesCanonically.rdDetOffset (i : Fin 8) : EncodesCanonically.Statement (.rdDetOffset i) :=
  fun _ h => encodes_read h (.inr (.inr rfl))
theorem EncodesCanonically.wrDetOffset (i : Fin 8) (d : Word) : EncodesCanonically.Statement (.wrDetOffset i d) :=
  fun _ h => encodes_write32 h
theorem EncodesCanonically.rdRxCtrl : EncodesCanonically.Statement .rdRxCtrl :=
  fun _ h => encodes_read h (.inr (.inr rfl))
theorem EncodesCanonically.rxFlush (d : Word) : EncodesCanonically.Statement (.rxFlush d) :=
  fun _ h => encodes_write32 h
theorem EncodesCanonically.rxAck (d : Word) : EncodesCanonically.Statement (.rxAck d) :=
  fun _ h => encodes_write32 h
theorem EncodesCanonically.rxAckFlush (d : Word) : EncodesCanonically.Statement (.rxAckFlush d) :=
  fun _ h => encodes_write32 h
theorem EncodesCanonically.wrRxCtrlNop (d : Word) : EncodesCanonically.Statement (.wrRxCtrlNop d) :=
  fun _ h => encodes_write32 h
theorem EncodesCanonically.rdRxCfg : EncodesCanonically.Statement .rdRxCfg :=
  fun _ h => encodes_read h (.inr (.inr rfl))
theorem EncodesCanonically.wrRxCfg (d : Word) : EncodesCanonically.Statement (.wrRxCfg d) :=
  fun _ h => encodes_write32 h
theorem EncodesCanonically.rdRxStatus : EncodesCanonically.Statement .rdRxStatus :=
  fun _ h => encodes_read h (.inr (.inr rfl))
theorem EncodesCanonically.wrRxStatus (d : Word) : EncodesCanonically.Statement (.wrRxStatus d) :=
  fun _ h => encodes_write32 h
theorem EncodesCanonically.rdRxCount : EncodesCanonically.Statement .rdRxCount :=
  fun _ h => encodes_read h (.inr (.inr rfl))
theorem EncodesCanonically.wrRxCount (d : Word) : EncodesCanonically.Statement (.wrRxCount d) :=
  fun _ h => encodes_write32 h
theorem EncodesCanonically.rdRxFrameLen : EncodesCanonically.Statement .rdRxFrameLen :=
  fun _ h => encodes_read h (.inr (.inr rfl))
theorem EncodesCanonically.wrRxFrameLen (d : Word) : EncodesCanonically.Statement (.wrRxFrameLen d) :=
  fun _ h => encodes_write32 h
theorem EncodesCanonically.rdRxDebug : EncodesCanonically.Statement .rdRxDebug :=
  fun _ h => encodes_read h (.inr (.inr rfl))
theorem EncodesCanonically.wrRxDebug (d : Word) : EncodesCanonically.Statement (.wrRxDebug d) :=
  fun _ h => encodes_write32 h
theorem EncodesCanonically.rdRxRuncnt : EncodesCanonically.Statement .rdRxRuncnt :=
  fun _ h => encodes_read h (.inr (.inr rfl))
theorem EncodesCanonically.wrRxRuncnt (d : Word) : EncodesCanonically.Statement (.wrRxRuncnt d) :=
  fun _ h => encodes_write32 h
theorem EncodesCanonically.busErrMisalignedRd32At1 (r : BitVec 8) : EncodesCanonically.Statement (.busErrMisalignedRd32At1 r) :=
  fun _ h => encodes_read h (.inr (.inr rfl))
theorem EncodesCanonically.busErrMisalignedWr32At1 (r : BitVec 8) (d : Word) : EncodesCanonically.Statement (.busErrMisalignedWr32At1 r d) :=
  fun _ h => encodes_write32 h
theorem EncodesCanonically.busErrMisalignedRd32At2 (r : BitVec 8) : EncodesCanonically.Statement (.busErrMisalignedRd32At2 r) :=
  fun _ h => encodes_read h (.inr (.inr rfl))
theorem EncodesCanonically.busErrMisalignedWr32At2 (r : BitVec 8) (d : Word) : EncodesCanonically.Statement (.busErrMisalignedWr32At2 r d) :=
  fun _ h => encodes_write32 h
theorem EncodesCanonically.busErrMisalignedRd32At3 (r : BitVec 8) : EncodesCanonically.Statement (.busErrMisalignedRd32At3 r) :=
  fun _ h => encodes_read h (.inr (.inr rfl))
theorem EncodesCanonically.busErrMisalignedWr32At3 (r : BitVec 8) (d : Word) : EncodesCanonically.Statement (.busErrMisalignedWr32At3 r d) :=
  fun _ h => encodes_write32 h
theorem EncodesCanonically.busErrNarrowRd8 (a : BitVec 10) : EncodesCanonically.Statement (.busErrNarrowRd8 a) :=
  fun _ h => encodes_read h (.inl rfl)
theorem EncodesCanonically.busErrNarrowRd16 (a : BitVec 10) : EncodesCanonically.Statement (.busErrNarrowRd16 a) :=
  fun _ h => encodes_read h (.inr (.inl rfl))
theorem EncodesCanonically.busErrNarrowWr8 (a : BitVec 10) (d : Byte) : EncodesCanonically.Statement (.busErrNarrowWr8 a d) :=
  fun _ h => encodes_write8 h
theorem EncodesCanonically.busErrNarrowWr16 (a : BitVec 10) (d : Half) : EncodesCanonically.Statement (.busErrNarrowWr16 a d) :=
  fun _ h => encodes_write16 h
theorem EncodesCanonically.rdRsvd (r : BitVec 8) : EncodesCanonically.Statement (.rdRsvd r) :=
  fun _ h => encodes_read h (.inr (.inr rfl))
theorem EncodesCanonically.wrRsvd (r : BitVec 8) (d : Word) : EncodesCanonically.Statement (.wrRsvd r d) :=
  fun _ h => encodes_write32 h
theorem EncodesCanonically.rdTx8 (i : BitVec 12) : EncodesCanonically.Statement (.rdTx8 i) :=
  fun _ h => encodes_read h (.inl rfl)
theorem EncodesCanonically.wrTx8 (i : BitVec 12) (d : Byte) : EncodesCanonically.Statement (.wrTx8 i d) :=
  fun _ h => encodes_write8 h
theorem EncodesCanonically.rdRx8 (i : BitVec 12) : EncodesCanonically.Statement (.rdRx8 i) :=
  fun _ h => encodes_read h (.inl rfl)
theorem EncodesCanonically.wrRx8 (i : BitVec 12) (d : Byte) : EncodesCanonically.Statement (.wrRx8 i d) :=
  fun _ h => encodes_write8 h
theorem EncodesCanonically.rdPcm8 (i : BitVec 20) : EncodesCanonically.Statement (.rdPcm8 i) :=
  fun _ h => encodes_read h (.inl rfl)
theorem EncodesCanonically.wrPcm8 (i : BitVec 20) (d : Byte) : EncodesCanonically.Statement (.wrPcm8 i d) :=
  fun _ h => encodes_write8 h
theorem EncodesCanonically.rdTx16 (i : BitVec 12) : EncodesCanonically.Statement (.rdTx16 i) :=
  fun _ h => encodes_read h (.inr (.inl rfl))
theorem EncodesCanonically.wrTx16 (i : BitVec 12) (d : Half) : EncodesCanonically.Statement (.wrTx16 i d) :=
  fun _ h => encodes_write16 h
theorem EncodesCanonically.rdRx16 (i : BitVec 12) : EncodesCanonically.Statement (.rdRx16 i) :=
  fun _ h => encodes_read h (.inr (.inl rfl))
theorem EncodesCanonically.wrRx16 (i : BitVec 12) (d : Half) : EncodesCanonically.Statement (.wrRx16 i d) :=
  fun _ h => encodes_write16 h
theorem EncodesCanonically.rdPcm16 (i : BitVec 20) : EncodesCanonically.Statement (.rdPcm16 i) :=
  fun _ h => encodes_read h (.inr (.inl rfl))
theorem EncodesCanonically.wrPcm16 (i : BitVec 20) (d : Half) : EncodesCanonically.Statement (.wrPcm16 i d) :=
  fun _ h => encodes_write16 h
theorem EncodesCanonically.rdTx32 (i : BitVec 12) : EncodesCanonically.Statement (.rdTx32 i) :=
  fun _ h => encodes_read h (.inr (.inr rfl))
theorem EncodesCanonically.wrTx32 (i : BitVec 12) (d : Word) : EncodesCanonically.Statement (.wrTx32 i d) :=
  fun _ h => encodes_write32 h
theorem EncodesCanonically.rdRx32 (i : BitVec 12) : EncodesCanonically.Statement (.rdRx32 i) :=
  fun _ h => encodes_read h (.inr (.inr rfl))
theorem EncodesCanonically.wrRx32 (i : BitVec 12) (d : Word) : EncodesCanonically.Statement (.wrRx32 i d) :=
  fun _ h => encodes_write32 h
theorem EncodesCanonically.rdPcm32 (i : BitVec 20) : EncodesCanonically.Statement (.rdPcm32 i) :=
  fun _ h => encodes_read h (.inr (.inr rfl))
theorem EncodesCanonically.wrPcm32 (i : BitVec 20) (d : Word) : EncodesCanonically.Statement (.wrPcm32 i d) :=
  fun _ h => encodes_write32 h
theorem EncodesCanonically.busErrUnmappedRd8 (a : Word) : EncodesCanonically.Statement (.busErrUnmappedRd8 a) :=
  fun _ h => encodes_read h (.inl rfl)
theorem EncodesCanonically.busErrUnmappedRd16 (a : Word) : EncodesCanonically.Statement (.busErrUnmappedRd16 a) :=
  fun _ h => encodes_read h (.inr (.inl rfl))
theorem EncodesCanonically.busErrUnmappedRd32 (a : Word) : EncodesCanonically.Statement (.busErrUnmappedRd32 a) :=
  fun _ h => encodes_read h (.inr (.inr rfl))
theorem EncodesCanonically.busErrUnmappedWr8 (a : Word) (d : Byte) : EncodesCanonically.Statement (.busErrUnmappedWr8 a d) :=
  fun _ h => encodes_write8 h
theorem EncodesCanonically.busErrUnmappedWr16 (a : Word) (d : Half) : EncodesCanonically.Statement (.busErrUnmappedWr16 a d) :=
  fun _ h => encodes_write16 h
theorem EncodesCanonically.busErrUnmappedWr32 (a : Word) (d : Word) : EncodesCanonically.Statement (.busErrUnmappedWr32 a d) :=
  fun _ h => encodes_write32 h
theorem EncodesCanonically.engineStep : EncodesCanonically.Statement .engineStep :=
  fun _ h => nomatch h
theorem EncodesCanonically.accStep (r : SlotResult) : EncodesCanonically.Statement (.accStep r) :=
  fun _ h => nomatch h
theorem EncodesCanonically.frameClose : EncodesCanonically.Statement .frameClose :=
  fun _ h => nomatch h

end Sys2Proof.Laws
end

