-- ==== Sys2Proof/Laws/Step.lean ====
section
/-!
SUPPORT. What a step can do, said once: the event it takes off the schedule and the instruction it runs.
-/

namespace Sys2Proof.Machine

open Sys2Proof.Config

/-- The memory of the state after reset is in the canonical form. -/
theorem State.reset_mem_wf : State.reset.mem.wf = true := rfl

/-- A step that answers a next state: ENGINE_STEP of a busy machine, the instruction of a transaction or of an
engine turn, or one of the six events that run no instruction (R104, R105, R330). -/
theorem step_cases {s t : State} (h : step s = .next t) :
    (s.schedule = [] ∧ s.rst = false ∧ s.enc.busy = true ∧ exec .engineStep s = .next t) ∨
    (s.schedule = [] ∧ (s.rst = true ∨ s.enc.busy = false) ∧ t = s) ∨
    (∃ tx rest, s.schedule = .bus tx :: rest ∧ s.rst = false ∧
      exec (decode tx) (s.setSchedule rest) = .next t) ∨
    (∃ tx rest, s.schedule = .bus tx :: rest ∧ s.rst = true ∧
      t = (s.setSchedule rest).platformReply tx.fmt) ∨
    (∃ rest, s.schedule = .engineTurn :: rest ∧ s.rst = false ∧
      exec .engineStep (s.setSchedule rest) = .next t) ∨
    (∃ rest, s.schedule = .engineTurn :: rest ∧ s.rst = true ∧ t = s.setSchedule rest) ∨
    (∃ rest, s.schedule = .assertReset :: rest ∧ t = (s.setSchedule rest).setRst true) ∨
    (∃ rest, s.schedule = .releaseReset :: rest ∧ s.rst = true ∧ t = (s.setSchedule rest).powerOnReset) ∨
    (∃ rest, s.schedule = .releaseReset :: rest ∧ s.rst = false ∧ t = s.setSchedule rest) := by
  unfold step fetch at h
  cases hs : s.schedule with
  | nil => cases hr : s.rst <;> cases hb : s.enc.busy <;> simp_all
  | cons e rest =>
    cases e with
    | bus tx => cases hr : s.rst <;> simp_all
    | engineTurn => cases hr : s.rst <;> simp_all
    | assertReset => simp_all
    | releaseReset => cases hr : s.rst <;> simp_all

/-- The next step after an offer runs the offered transaction, and nothing else is changed but `rst`. -/
theorem step_offer (s : State) (t : Txn) : step (s.offer t) = exec (decode t) (s.setRst false) := rfl

/-- A number that spells a transaction is what the next step runs (log entry 6). -/
theorem step_withFetchWord {s : State} {nbits w : Nat} {t : Txn} (h : tableTxn nbits w = .ok t) :
    step (s.withFetchWord nbits w) = exec (decode t) (s.setRst false) := by
  simp only [State.withFetchWord, h]
  rfl

end Sys2Proof.Machine
end

