-- ==== Sys2Proof/Laws/Values.lean ====
section
/-!
SUPPORT. The value-level operations: little-endian reads, the running CRC and the range of SINE on a quadrant.
-/

namespace Sys2Proof.Machine

open Sys2Proof.Config

/-- A little-endian read is below 256^n. -/
theorem State.readLE_lt (s : State) (a n : Nat) : n ≤ 4 → (s.readLE a n).toNat < 256 ^ n := by
  induction n generalizing a with
  | zero => intro _; simp [State.readLE]
  | succ n ih =>
    intro hn
    have h1 := ih (a + 1) (by omega)
    have h2 : (s.readByte a).toNat < 256 := (s.readByte a).isLt
    have h3 : 256 ^ (n + 1) = 256 * 256 ^ n := by ring
    have hp : 2 ^ (8 * (n + 1)) = 256 ^ (n + 1) := by rw [pow_mul]; norm_num
    rw [← hp, State.readLE, BitVec.toNat_or]
    apply Nat.or_lt_two_pow
    · rw [hp]
      simp only [BitVec.toNat_setWidth]
      have := Nat.mod_le (s.readByte a).toNat (2 ^ 32)
      have hq : 1 ≤ 256 ^ n := Nat.one_le_pow _ _ (by norm_num)
      omega
    · rw [hp, BitVec.toNat_shiftLeft, Nat.shiftLeft_eq]
      have := Nat.mod_le ((s.readLE (a + 1) n).toNat * 2 ^ 8) (2 ^ 32)
      omega

/-- Byte k of a little-endian read is the byte at address a + k (R97). -/
theorem State.readLE_byte (s : State) (a n k : Nat) (hn : n ≤ 4) (hk : k < n) :
    (s.readLE a n).extractLsb' (8 * k) 8 = s.readByte (a + k) := by
  induction n generalizing a k with
  | zero => omega
  | succ n ih =>
    cases k with
    | zero =>
      ext i hi
      have h : i < 32 := by omega
      simp [State.readLE, hi, h]
    | succ k =>
      rw [show a + (k + 1) = a + 1 + k by omega, ← ih (a + 1) k (by omega) (by omega)]
      ext i hi
      have h1 : ¬8 * (k + 1) + i < 8 := by omega
      have h2 : 8 * (k + 1) + i - 8 = 8 * k + i := by omega
      have h3 : 8 * (k + 1) + i < 32 := by omega
      have h4 : (s.readByte a).getLsbD (8 * (k + 1) + i) = false := BitVec.getLsbD_of_ge _ _ (by omega)
      have h5 : 8 * k + i < 32 := by omega
      simp [State.readLE, h1, h2, h3, h4, BitVec.getLsbD_eq_getElem h5]

/-- The CRC of a string is the CRC of its first part, stepped over the rest (R260). -/
theorem crc8_append (p q : List Byte) : crc8 (p ++ q) = q.foldl crc8Step (crc8 p) := by
  simp [crc8]

/-- A value held to its range lies in it (R187 law 1). -/
theorem holdToRange_bounds (a : Nat) (v : Int) : -(a : Int) ≤ holdToRange a v ∧ holdToRange a v ≤ a := by
  unfold holdToRange
  omega

end Sys2Proof.Machine
end

