-- ==== Sys2Proof/Tests/Slice0.lean ====
section
/-!
SUPPORT. Tests of the model. Expected values come from the spec: decode words are written from the opcode table of
30_encoding section 4, the others are vectors of 95_test_vectors.md (TV) or follow by hand from the rule named. The
second half shows, for each statement with hypotheses, a concrete state and operands that meet them.
-/

open Sys2Proof Sys2Proof.Machine Sys2Proof.Config

namespace Sys2Proof.Tests

/-! ### Well-formedness: an ill-formed term for each check -/

/-- R125: the data bits that select a command. -/
theorem test_wf_commands :
    (Instr.srst 0).wellFormed = false ∧ (Instr.wrCtrlNop 1).wellFormed = false ∧
    (Instr.encStart 2).wellFormed = false ∧ (Instr.wrEncCtrl 3).wellFormed = false ∧
    (Instr.detPush 0).wellFormed = false ∧ (Instr.wrDetPushNop 1).wellFormed = false ∧
    (Instr.rxFlush 0).wellFormed = false ∧ (Instr.rxFlush 3).wellFormed = false ∧
    (Instr.rxAck 0).wellFormed = false ∧ (Instr.rxAck 3).wellFormed = false ∧
    (Instr.rxAckFlush 1).wellFormed = false ∧ (Instr.rxAckFlush 2).wellFormed = false ∧
    (Instr.wrRxCtrlNop 1).wellFormed = false ∧ (Instr.wrRxCtrlNop 2).wellFormed = false := by decide

/-- R153: a reserved access names no assigned register (0x01C is reserved, 0x018 and 0x318 are not). -/
theorem test_wf_reserved :
    (Instr.rdRsvd 0x06).wellFormed = false ∧ (Instr.wrRsvd 0xC6 0).wellFormed = false ∧
    (Instr.rdRsvd 0x07).wellFormed = true := by decide

/-- R164: an unmapped access lies in no region of R92. -/
theorem test_wf_unmapped :
    (Instr.busErrUnmappedRd8 0x3FF).wellFormed = false ∧ (Instr.busErrUnmappedRd16 0x1000).wellFormed = false ∧
    (Instr.busErrUnmappedRd32 0x1FFF).wellFormed = false ∧ (Instr.busErrUnmappedWr8 0x2000 0).wellFormed = false ∧
    (Instr.busErrUnmappedWr16 0x100000 0).wellFormed = false ∧
    (Instr.busErrUnmappedWr32 0x1FFFFF 0).wellFormed = false ∧
    (Instr.busErrUnmappedWr32 0x200000 0).wellFormed = true := by decide

/-! ### Decoding -/

/-- 30_encoding section 4, identification, reset and interrupt registers: words written from the table. -/
theorem test_decode_system_registers :
  decode ⟨.rd32, 0x0, 0x0⟩ = .rdId ∧
  decode ⟨.wr32, 0x0, 0xA5C39676⟩ = .wrId 0xA5C39676 ∧
  decode ⟨.rd32, 0x4, 0x0⟩ = .rdCtrl ∧
  decode ⟨.wr32, 0x4, 0xA5C39677⟩ = .srst 0xA5C39677 ∧
  decode ⟨.wr32, 0x4, 0xA5C39676⟩ = .wrCtrlNop 0xA5C39676 ∧
  decode ⟨.rd32, 0x8, 0x0⟩ = .rdIrqStatus ∧
  decode ⟨.wr32, 0x8, 0xA5C39676⟩ = .wrIrqStatus 0xA5C39676 ∧
  decode ⟨.rd32, 0xC, 0x0⟩ = .rdIrqEnable ∧
  decode ⟨.wr32, 0xC, 0xA5C39676⟩ = .wrIrqEnable 0xA5C39676 ∧
  decode ⟨.rd32, 0x10, 0x0⟩ = .rdTxDepthR ∧
  decode ⟨.wr32, 0x10, 0xA5C39676⟩ = .wrTxDepthR 0xA5C39676 ∧
  decode ⟨.rd32, 0x14, 0x0⟩ = .rdRxDepthR ∧
  decode ⟨.wr32, 0x14, 0xA5C39676⟩ = .wrRxDepthR 0xA5C39676 ∧
  decode ⟨.rd32, 0x18, 0x0⟩ = .rdPcmDepthR ∧
  decode ⟨.wr32, 0x18, 0xA5C39676⟩ = .wrPcmDepthR 0xA5C39676 := by decide

/-- 30_encoding section 4, encoder registers: words written from the table. -/
theorem test_decode_encoder_registers :
  decode ⟨.rd32, 0x100, 0x0⟩ = .rdEncCtrl ∧
  decode ⟨.wr32, 0x100, 0xA5C39677⟩ = .encStart 0xA5C39677 ∧
  decode ⟨.wr32, 0x100, 0xA5C39676⟩ = .wrEncCtrl 0xA5C39676 ∧
  decode ⟨.rd32, 0x104, 0x0⟩ = .rdEncStatus ∧
  decode ⟨.wr32, 0x104, 0xA5C39676⟩ = .wrEncStatus 0xA5C39676 ∧
  decode ⟨.rd32, 0x108, 0x0⟩ = .rdEncSpw ∧
  decode ⟨.wr32, 0x108, 0xA5C39676⟩ = .wrEncSpw 0xA5C39676 ∧
  decode ⟨.rd32, 0x10C, 0x0⟩ = .rdEncAmp ∧
  decode ⟨.wr32, 0x10C, 0xA5C39676⟩ = .wrEncAmp 0xA5C39676 ∧
  decode ⟨.rd32, 0x110, 0x0⟩ = .rdEncStartOff ∧
  decode ⟨.wr32, 0x110, 0xA5C39676⟩ = .wrEncStartOff 0xA5C39676 ∧
  decode ⟨.rd32, 0x114, 0x0⟩ = .rdEncLen ∧
  decode ⟨.wr32, 0x114, 0xA5C39676⟩ = .wrEncLen 0xA5C39676 ∧
  decode ⟨.rd32, 0x118, 0x0⟩ = .rdEncNsamp ∧
  decode ⟨.wr32, 0x118, 0xA5C39676⟩ = .wrEncNsamp 0xA5C39676 ∧
  decode ⟨.rd32, 0x11C, 0x0⟩ = .rdEncPos ∧
  decode ⟨.wr32, 0x11C, 0xA5C39676⟩ = .wrEncPos 0xA5C39676 ∧
  decode ⟨.rd32, 0x134, 0x0⟩ = .rdEncInc 5 ∧
  decode ⟨.wr32, 0x134, 0xA5C39676⟩ = .wrEncInc 5 0xA5C39676 := by decide

/-- 30_encoding section 4, detector registers: words written from the table. -/
theorem test_decode_detector_registers :
  decode ⟨.rd32, 0x200, 0x0⟩ = .rdDetPush ∧
  decode ⟨.wr32, 0x200, 0xA5C39677⟩ = .detPush 0xA5C39677 ∧
  decode ⟨.wr32, 0x200, 0xA5C39676⟩ = .wrDetPushNop 0xA5C39676 ∧
  decode ⟨.rd32, 0x204, 0x0⟩ = .rdDetThresh ∧
  decode ⟨.wr32, 0x204, 0xA5C39676⟩ = .wrDetThresh 0xA5C39676 ∧
  decode ⟨.rd32, 0x208, 0x0⟩ = .rdDetFloor ∧
  decode ⟨.wr32, 0x208, 0xA5C39676⟩ = .wrDetFloor 0xA5C39676 ∧
  decode ⟨.rd32, 0x20C, 0x0⟩ = .rdDetResult ∧
  decode ⟨.wr32, 0x20C, 0xA5C39676⟩ = .wrDetResult 0xA5C39676 ∧
  decode ⟨.rd32, 0x210, 0x0⟩ = .rdDetDom ∧
  decode ⟨.wr32, 0x210, 0xA5C39676⟩ = .wrDetDom 0xA5C39676 ∧
  decode ⟨.rd32, 0x214, 0x0⟩ = .rdDetSlots ∧
  decode ⟨.wr32, 0x214, 0xA5C39676⟩ = .wrDetSlots 0xA5C39676 ∧
  decode ⟨.rd32, 0x234, 0x0⟩ = .rdDetLevel 5 ∧
  decode ⟨.wr32, 0x234, 0xA5C39676⟩ = .wrDetLevel 5 0xA5C39676 ∧
  decode ⟨.rd32, 0x254, 0x0⟩ = .rdDetOffset 5 ∧
  decode ⟨.wr32, 0x254, 0xA5C39676⟩ = .wrDetOffset 5 0xA5C39676 := by decide

/-- 30_encoding section 4, accumulator registers: words written from the table. -/
theorem test_decode_accumulator_registers :
  decode ⟨.rd32, 0x300, 0x0⟩ = .rdRxCtrl ∧
  decode ⟨.wr32, 0x300, 0xA5C39675⟩ = .rxFlush 0xA5C39675 ∧
  decode ⟨.wr32, 0x300, 0xA5C39676⟩ = .rxAck 0xA5C39676 ∧
  decode ⟨.wr32, 0x300, 0xA5C39677⟩ = .rxAckFlush 0xA5C39677 ∧
  decode ⟨.wr32, 0x300, 0xA5C39674⟩ = .wrRxCtrlNop 0xA5C39674 ∧
  decode ⟨.rd32, 0x304, 0x0⟩ = .rdRxCfg ∧
  decode ⟨.wr32, 0x304, 0xA5C39676⟩ = .wrRxCfg 0xA5C39676 ∧
  decode ⟨.rd32, 0x308, 0x0⟩ = .rdRxStatus ∧
  decode ⟨.wr32, 0x308, 0xA5C39676⟩ = .wrRxStatus 0xA5C39676 ∧
  decode ⟨.rd32, 0x30C, 0x0⟩ = .rdRxCount ∧
  decode ⟨.wr32, 0x30C, 0xA5C39676⟩ = .wrRxCount 0xA5C39676 ∧
  decode ⟨.rd32, 0x310, 0x0⟩ = .rdRxFrameLen ∧
  decode ⟨.wr32, 0x310, 0xA5C39676⟩ = .wrRxFrameLen 0xA5C39676 ∧
  decode ⟨.rd32, 0x314, 0x0⟩ = .rdRxDebug ∧
  decode ⟨.wr32, 0x314, 0xA5C39676⟩ = .wrRxDebug 0xA5C39676 ∧
  decode ⟨.rd32, 0x318, 0x0⟩ = .rdRxRuncnt ∧
  decode ⟨.wr32, 0x318, 0xA5C39676⟩ = .wrRxRuncnt 0xA5C39676 := by decide

/-- 30_encoding section 4, illegal register accesses and reserved offsets: words written from the table. -/
theorem test_decode_illegal_and_reserved :
  decode ⟨.rd32, 0x3A9, 0x0⟩ = .busErrMisalignedRd32At1 0xEA ∧
  decode ⟨.wr32, 0x3A9, 0xA5C39676⟩ = .busErrMisalignedWr32At1 0xEA 0xA5C39676 ∧
  decode ⟨.rd32, 0x3AA, 0x0⟩ = .busErrMisalignedRd32At2 0xEA ∧
  decode ⟨.wr32, 0x3AA, 0xA5C39676⟩ = .busErrMisalignedWr32At2 0xEA 0xA5C39676 ∧
  decode ⟨.rd32, 0x3AB, 0x0⟩ = .busErrMisalignedRd32At3 0xEA ∧
  decode ⟨.wr32, 0x3AB, 0xA5C39676⟩ = .busErrMisalignedWr32At3 0xEA 0xA5C39676 ∧
  decode ⟨.rd8, 0x2A7, 0x0⟩ = .busErrNarrowRd8 0x2A7 ∧
  decode ⟨.rd16, 0x2A7, 0x0⟩ = .busErrNarrowRd16 0x2A7 ∧
  decode ⟨.wr8, 0x2A7, 0xA5C39676⟩ = .busErrNarrowWr8 0x2A7 0x76 ∧
  decode ⟨.wr16, 0x2A7, 0xA5C39676⟩ = .busErrNarrowWr16 0x2A7 0x9676 ∧
  decode ⟨.rd32, 0xFC, 0x0⟩ = .rdRsvd 0x3F ∧
  decode ⟨.wr32, 0x31C, 0xA5C39676⟩ = .wrRsvd 0xC7 0xA5C39676 := by decide

/-- 30_encoding section 4, RAM windows: words written from the table. -/
theorem test_decode_ram_windows :
  decode ⟨.rd8, 0x1B7D, 0x0⟩ = .rdTx8 0xB7D ∧
  decode ⟨.wr8, 0x1B7D, 0xA5C39676⟩ = .wrTx8 0xB7D 0x76 ∧
  decode ⟨.rd8, 0x2B7D, 0x0⟩ = .rdRx8 0xB7D ∧
  decode ⟨.wr8, 0x2B7D, 0xA5C39676⟩ = .wrRx8 0xB7D 0x76 ∧
  decode ⟨.rd8, 0x1ABCDE, 0x0⟩ = .rdPcm8 0xABCDE ∧
  decode ⟨.wr8, 0x1ABCDE, 0xA5C39676⟩ = .wrPcm8 0xABCDE 0x76 ∧
  decode ⟨.rd16, 0x1B7D, 0x0⟩ = .rdTx16 0xB7D ∧
  decode ⟨.wr16, 0x1B7D, 0xA5C39676⟩ = .wrTx16 0xB7D 0x9676 ∧
  decode ⟨.rd16, 0x2B7D, 0x0⟩ = .rdRx16 0xB7D ∧
  decode ⟨.wr16, 0x2B7D, 0xA5C39676⟩ = .wrRx16 0xB7D 0x9676 ∧
  decode ⟨.rd16, 0x1ABCDE, 0x0⟩ = .rdPcm16 0xABCDE ∧
  decode ⟨.wr16, 0x1ABCDE, 0xA5C39676⟩ = .wrPcm16 0xABCDE 0x9676 ∧
  decode ⟨.rd32, 0x1B7D, 0x0⟩ = .rdTx32 0xB7D ∧
  decode ⟨.wr32, 0x1B7D, 0xA5C39676⟩ = .wrTx32 0xB7D 0xA5C39676 ∧
  decode ⟨.rd32, 0x2B7D, 0x0⟩ = .rdRx32 0xB7D ∧
  decode ⟨.wr32, 0x2B7D, 0xA5C39676⟩ = .wrRx32 0xB7D 0xA5C39676 ∧
  decode ⟨.rd32, 0x1ABCDE, 0x0⟩ = .rdPcm32 0xABCDE ∧
  decode ⟨.wr32, 0x1ABCDE, 0xA5C39676⟩ = .wrPcm32 0xABCDE 0xA5C39676 := by decide

/-- 30_encoding section 4, offsets in no region: words written from the table. -/
theorem test_decode_unmapped :
  decode ⟨.rd8, 0x3004, 0x0⟩ = .busErrUnmappedRd8 0x3004 ∧
  decode ⟨.rd16, 0x3004, 0x0⟩ = .busErrUnmappedRd16 0x3004 ∧
  decode ⟨.rd32, 0x3004, 0x0⟩ = .busErrUnmappedRd32 0x3004 ∧
  decode ⟨.wr8, 0xFEDCBA98, 0xA5C39676⟩ = .busErrUnmappedWr8 0xFEDCBA98 0x76 ∧
  decode ⟨.wr16, 0xFEDCBA98, 0xA5C39676⟩ = .busErrUnmappedWr16 0xFEDCBA98 0x9676 ∧
  decode ⟨.wr32, 0xFEDCBA98, 0xA5C39676⟩ = .busErrUnmappedWr32 0xFEDCBA98 0xA5C39676 := by decide

/-- The numbered form: bits [63:0] are TW, bits [66:64] the format (log entry 6). -/
theorem test_numbered_words :
    decodeTableWord 64 0x0000013C08000000 = some (.wrEncInc 7 0x08000000) ∧
    decodeTableWord 72 0x10000011800000000 = some .rdEncNsamp ∧
    decodeTableWord 72 0x300001000000000A5 = some (.rdTx16 0) ∧
    decodeTableWord 72 0x60000000000000000 = none ∧ decodeTableWord 72 0x80000000000000000 = none := by decide

/-- A placed word is what the next step runs. -/
theorem test_placed_word_runs :
    (match step (State.reset.withFetchWord 64 0x00000108000033AE) with
      | .next t => decide (t.enc.spw = 0x33AE ∧ t.schedule = [] ∧ t.reply = .write .okay)
      | _ => false) = true := by decide

/-! ### One step on a small state -/

/-- The state `exec` answers, or the old one if it stops. -/
def after (i : Instr) (s : State) : State := match exec i s with | .next t => t | _ => s

/-- The word an OKAY read answers. -/
def readBack (i : Instr) (s : State) : Option Word :=
  match (after i s).reply with | .read .okay d => some d | _ => none

/-- TV 2.1: register values after reset. -/
theorem test_reset_words :
    readBack .rdId .reset = some 0x4D4F4445 ∧ readBack .rdCtrl .reset = some 0 ∧
    readBack .rdTxDepthR .reset = some 0x100 ∧ readBack .rdRxDepthR .reset = some 0x100 ∧
    readBack .rdPcmDepthR .reset = some 0x40000 ∧ readBack .rdEncCtrl .reset = some 2 ∧
    readBack .rdEncStatus .reset = some 0 ∧ readBack .rdEncNsamp .reset = some 0 ∧
    readBack .rdDetThresh .reset = some 0x12C ∧ readBack .rdDetFloor .reset = some 0x8000 ∧
    readBack .rdRxCfg .reset = some 0x101 ∧ readBack .rdRxStatus .reset = some 0 ∧
    readBack (.rdRsvd 7) .reset = some 0 := by decide

/-- TV 2.1: a field is legalised when it is written. -/
theorem test_legalised_fields :
    readBack .rdRxCfg (after (.wrRxCfg 0) .reset) = some 0x100 ∧
    readBack .rdRxCfg (after (.wrRxCfg 0xFFFFFFFF) .reset) = some 0xFFFFFF03 ∧
    readBack .rdEncAmp (after (.wrEncAmp 0xFFFF8000) .reset) = some 0x7FFF ∧
    readBack .rdEncAmp (after (.wrEncAmp 40000) .reset) = some 32767 ∧
    readBack .rdEncSpw (after (.wrEncSpw 0xFFFFFFFF) .reset) = some 0xFFFFFF ∧
    readBack .rdEncLen (after (.wrEncLen 0x12345678) .reset) = some 0x5678 ∧
    readBack .rdEncNsamp (after (.wrEncLen 0x12345678) (after (.wrEncSpw 0xFFFFFFFF) .reset)) = some 0xFFFFFFFF ∧
    readBack (.rdDetLevel 0) (after (.wrDetLevel 0 0xFFFF8000) .reset) = some 0x8000 ∧
    readBack .rdDetThresh (after (.wrDetThresh 0x12345) .reset) = some 0x2345 ∧
    readBack .rdIrqEnable (after (.wrIrqEnable 0xFFFFFFFF) .reset) = some 0x1F := by decide

/-- TV 2.1: little-endian RAM accesses. -/
theorem test_little_endian :
    readBack (.rdTx8 2) (after (.wrTx32 0 0x44332211) .reset) = some 0x33 ∧
    readBack (.rdTx16 2) (after (.wrTx32 0 0x44332211) .reset) = some 0x4433 ∧
    readBack (.rdPcm32 0) (after (.wrPcm16 0 0x1234) (after (.wrPcm16 2 0x8001) .reset)) = some 0x80011234 ∧
    readBack (.rdPcm8 524287) (after (.wrPcm8 524287 0x7F) .reset) = some 0x7F := by decide

/-- TV 2.1: access errors. -/
theorem test_access_errors :
    (after (decode ⟨.rd16, 0x118, 0⟩) .reset).reply = .read .error 0 ∧
    (after (decode ⟨.rd32, 0x200000, 0⟩) .reset).reply = .read .error 0 ∧
    (after (.wrRx8 0 1) .reset).reply = .write .error ∧ (after (.rdTx16 1) .reset).reply = .read .error 0 ∧
    (after (.wrTx8 256 1) .reset).reply = .write .error ∧ (after (.rdRx8 256) .reset).reply = .read .error 0 ∧
    (after (.rdPcm32 2) .reset).reply = .read .error 0 ∧ (after (.rdPcm8 524288) .reset).reply = .read .error 0 := by
  decide

/-- The reference tones of TV: INC[k] = (k + 1)·2^27. -/
def toneInc : Bank Word :=
  ⟨0x08000000, 0x10000000, 0x18000000, 0x20000000, 0x28000000, 0x30000000, 0x38000000, 0x40000000⟩

/-- TV 2.2: the checks of START. -/
theorem test_start_checks :
    readBack .rdEncStatus (after (.encStart 3) .reset) = some 0x12 ∧
    readBack .rdEncStatus (after (.encStart 3) { State.reset with
      enc := { Enc.reset with spw := 1, inc := ⟨100, 101, 102, 103, 104, 105, 106, 100⟩ } }) = some 0x32 ∧
    readBack .rdEncStatus (after (.encStart 3) { State.reset with
      enc := { Enc.reset with spw := 1, len := 257, inc := toneInc } }) = some 0x22 ∧
    readBack .rdEncStatus (after (.encStart 3) { State.reset with
      enc := { Enc.reset with spw := 13230, len := 7, startOff := 50465, inc := toneInc } }) = some 0x4 ∧
    readBack .rdEncStatus (after (.encStart 3) { State.reset with
      enc := { Enc.reset with spw := 13230, len := 7, startOff := 50464, inc := toneInc } }) = some 0x1 ∧
    (after (.encStart 1) { State.reset with enc := { Enc.reset with spw := 1, inc := toneInc } }).irqStatus = 1 := by
  decide

/-- TV 2.3: the reference SINE. -/
theorem test_sine_table :
    [0x08000000, 0x10000000, 0x18000000, 0x20000000, 0x28000000, 0x30000000, 0x38000000, 0x40000000].map
      (fun p => sine .reference p 1000) = [195, 383, 556, 707, 831, 924, 981, 1000] ∧
    [0x60000000, 0x70000000, 0x80000000, 0x90000000, 0xA0000000, 0xA8000000, 0xC0000000, 0xE0000000].map
      (fun p => sine .reference p 1000) = [707, 383, 0, -383, -707, -831, -1000, -707] ∧
    [0x00000001, 0x20000000, 0x7FFFFFFF, 0xFFFFFFFF].map (fun p => sine .reference p 16383) =
      [0, 11585, 0, 0] := by decide

/-- A machine two samples into word 5 of the render of TV 2.4, with one byte of a frame received. -/
def running : State := { State.reset with
  enc := { Enc.reset with
    busy := true, crcEn := false, spw := 4, amp := 2000, startOff := 2, len := 1, pos := 6, inc := toneInc }
  acc := { Acc.reset with
    frameActive := true, count := 1, crc := 0x81, lastValid := true, lastNib := 0xA
    runValid := true, runNib := 0xA, runCnt := 1 }
  mem := [(0x1000, 0xA5), (0x2000, 0x5A), (0x10000F, 0x77)] }

/-- TV 2.4: sample 8 of PCM RAM is 1414, sample 9 is 541 and ends the render. -/
theorem test_engine_samples :
    ((after .engineStep running).pcmSample 8).toInt = 1414 ∧ (after .engineStep running).enc.pos = 7 ∧
    ((after .engineStep (after .engineStep running)).pcmSample 9).toInt = 541 ∧
    (after .engineStep (after .engineStep running)).enc.busy = false ∧
    (after .engineStep (after .engineStep running)).irqStatus = 1 ∧
    (after .engineStep running).mem.lookup 0x10000F = some 0x77 := by decide

/-- A machine after reset with the eight levels written. -/
def slot (l : Bank Int) : State := { State.reset with
  det := { Det.reset with level :=
    ⟨BitVec.ofInt 16 l.b0, BitVec.ofInt 16 l.b1, BitVec.ofInt 16 l.b2, BitVec.ofInt 16 l.b3,
      BitVec.ofInt 16 l.b4, BitVec.ofInt 16 l.b5, BitVec.ofInt 16 l.b6, BitVec.ofInt 16 l.b7⟩ } }

/-- DET_RESULT and DET_DOM after a push. -/
def pushed (l : Bank Int) : Word × Word :=
  ((after (.detPush 1) (slot l)).det.resultWord, (after (.detPush 1) (slot l)).det.domWord)

/-- TV 2.5: one slot. -/
theorem test_detector_slots :
    pushed ⟨3000, 6000, 3000, 3000, 3000, 6000, 3000, 3000⟩ = (0x705, 0x0BB80BB8) ∧
    pushed ⟨5000, 5000, 5000, 5000, 5000, 5000, 5000, 5000⟩ = (0x000, 0x00000000) ∧
    pushed ⟨6000, 6000, 3000, 3000, 6000, 3000, 3000, 3000⟩ = (0x400, 0x0BB80000) ∧
    pushed ⟨3300, 3000, 3000, 3000, 6000, 3000, 3000, 3000⟩ = (0x400, 0x0BB8012C) ∧
    pushed ⟨3301, 3000, 3000, 3000, 3000, 3000, 6000, 3000⟩ = (0x702, 0x0BB8012D) ∧
    pushed ⟨-9000, -2000, -9000, -9000, -9000, -9000, -9000, -1000⟩ = (0x707, 0x1F401B58) ∧
    pushed ⟨32767, -32768, -32768, -32768, -32768, -32768, -32768, 32767⟩ = (0x703, 0xFFFFFFFF) := by decide

/-- TV 2.6: with S = 3 the second slot of a symbol emits it. -/
theorem test_run_of_two :
    let s := after (.accStep (.sym 6)) (after (.accStep (.sym 6)) (after (.wrRxCfg 0x0300) .reset))
    s.acc.debugWord = 0x00061616 ∧ s.acc.runcntWord = 2 ∧ s.acc.statusWord = 0xC ∧ s.irqStatus = 4 := by decide

/-- R266, its example: the nibbles 5, A, 8, 1 give the frame 5A 81. -/
theorem test_frame_close :
    let s := after .frameClose (accSteps .reset [.sym 5, .sym 0xA, .sym 8, .sym 1])
    s.acc.statusWord = 3 ∧ s.acc.frameLenWord = 2 ∧ s.irqStatus = 0xC ∧ s.mem = [(0x2000, 0x5A), (0x2001, 0x81)] := by
  decide +kernel

/-- TV 2.6: CHANGE mode drops the repeated nibble; with GAP_SLOTS = 2 the second NoMatch closes the frame. -/
theorem test_change_and_gap :
    (accSteps (after (.wrRxCfg 0x0102) .reset) [.sym 5, .sym 5, .sym 3]).mem = [(0x2000, 0x53)] ∧
    (accSteps (after (.wrRxCfg 0x00020101) .reset) [.sym 5, .noMatch]).acc.frameValid = false ∧
    (accSteps (after (.wrRxCfg 0x00020101) .reset) [.sym 5, .noMatch, .noMatch]).acc.frameValid = true := by decide

/-- A machine with a closed frame waiting: R268's example has RX_STATUS = 0x23. -/
def closed : State := { State.reset with
  irqStatus := 0b01100
  acc := { Acc.reset with frameValid := true, crcOk := true, count := 2, frameLen := 2, lost := true }
  mem := [(0x2000, 0x5A), (0x2001, 0x81)] }

/-- R268, R158, R251: ACK, the LOST clear, and a nibble emitted while the frame waits. -/
theorem test_closed_frame :
    closed.acc.statusWord = 0x23 ∧ (after (.rxAck 2) closed).acc.statusWord = 0x20 ∧
    (after (.rxAck 2) closed).acc.countWord = 0 ∧ (after (.wrRxStatus 0x20) closed).acc.statusWord = 3 ∧
    (after (.accStep (.sym 1)) closed).irqStatus = 0b11100 ∧
    (after (.accStep (.sym 1)) closed).mem = closed.mem := by decide

/-- TV 2.7: crc8. -/
theorem test_crc :
    crc8 [] = 0 ∧ crc8 [0x01] = 0x07 ∧ crc8 [0x12, 0x34] = 0xF1 ∧ crc8 [0xA5] = 0x72 ∧ crc8 [0xFF] = 0xF3 ∧
    crc8 [0x31, 0x32, 0x33, 0x34, 0x35, 0x36, 0x37, 0x38, 0x39] = 0xF4 ∧
    crc8 [0x55, 0x31, 0x5F, 0x37, 0x36, 0x2E, 0x38] = 0xFD := by decide +kernel

/-- TV 2.8: irq follows the flags and the mask. -/
theorem test_irq :
    (after (.wrIrqEnable 0x8) closed).irq = true ∧ (after (.wrIrqStatus 0x8) (after (.wrIrqEnable 0x8) closed)).irq = false ∧
    (after (.wrIrqStatus 0x8) closed).irqStatus = 0x4 := by decide

/-- R155, R157, R340: the W1C writes, and a locked write. -/
theorem test_locked_write :
    readBack .rdEncStatus (after (.wrEncSpw 5) running) = some 9 ∧ (after (.wrEncSpw 5) running).enc.spw = 4 ∧
    readBack .rdEncStatus (after (.wrEncStatus 8) (after (.wrEncSpw 5) running)) = some 1 ∧
    (after (.wrTx8 0 0) running).mem = running.mem ∧ (after (.encStart 3) running).enc.crcEn = false := by decide

/-- R331, TV 2.9: the soft reset stops the render and keeps the RAMs. -/
theorem test_soft_reset :
    (after (.srst 1) running).enc = Enc.reset ∧ (after (.srst 1) running).mem = running.mem ∧
    (after (.srst 1) running).acc = Acc.reset ∧ after (.wrCtrlNop 0) running = running.replyOkay := by decide

/-- R62: the reference conversion of a level; 94.00 dB is 9400. -/
theorem test_host_conversions :
    hostSpw (3 / 10) 44100 = 13230 ∧ (hostLevel 94).toInt = 9400 ∧ (hostLevel (-400)).toInt = -32768 ∧
    hostInc 11025 44100 = 0x40000000 := by decide +kernel

/-! ### A state of the invariant -/

/-- `running` satisfies the invariant: a busy encoder and an active frame. -/
theorem running_inv : running.Inv where
  params_ok := by decide
  mem_wf := by decide
  mem_ram := by
    intro c hc
    simp only [running, List.mem_cons, List.not_mem_nil, or_false] at hc
    rcases hc with rfl | rfl | rfl
    · exact ⟨.tx, by decide, by decide⟩
    · exact ⟨.rx, by decide, by decide⟩
    · exact ⟨.pcm, by decide, by decide⟩
  enc_inv := by constructor <;> decide
  det_inv := by unfold Det.Inv; decide
  acc_inv := by constructor <;> decide
  frame_bytes := ⟨[0x5A], by decide, by decide⟩

/-! ### Witnesses: the hypotheses of each statement, met together -/

/-- DecodeInvertsEncode, at the last operand of a window and the first reserved register. -/
theorem witness_DecodeInvertsEncode :
    (Instr.wrPcm16 0xFFFFF 0xFFFF).wellFormed = true ∧
    encode (.wrPcm16 0xFFFFF 0xFFFF) = some ⟨.wr16, 0x1FFFFF, 0xFFFF⟩ ∧
    (Instr.rdRsvd 0x07).wellFormed = true ∧ encode (.rdRsvd 0x07) = some ⟨.rd32, 0x1C, 0⟩ ∧
    encode .engineStep = none ∧ Instr.engineStep.internal = true := by decide

/-- EncodeInvertsDecode, one transaction of each kind of format. -/
theorem witness_EncodeInvertsDecode :
    Txn.canonical ⟨.rd16, 0xFFFFFFFF, 0⟩ = true ∧ Txn.canonical ⟨.wr8, 0x1000, 0xFF⟩ = true ∧
    Txn.canonical ⟨.wr16, 0x1000, 0xFFFF⟩ = true ∧ Txn.canonical ⟨.wr32, 0, 0xFFFFFFFF⟩ = true := by decide

/-- StepRunsTransaction. -/
theorem witness_StepRunsTransaction :
    (State.reset.offer ⟨.wr32, 0x100, 3⟩).rst = false ∧
    (State.reset.offer ⟨.wr32, 0x100, 3⟩).schedule = .bus ⟨.wr32, 0x100, 3⟩ :: [] := by decide

/-- StepRunsEngine: a scheduled turn, an unscheduled one, and an idle machine. -/
theorem witness_StepRunsEngine :
    running.rst = false ∧ (running.setSchedule [.engineTurn]).schedule = .engineTurn :: [] ∧
    running.schedule = [] ∧ running.enc.busy = true ∧
    State.reset.rst = false ∧ State.reset.schedule = [] ∧ State.reset.enc.busy = false := by decide

/-- ResetInputHolds: each of its five schedules. -/
theorem witness_ResetInputHolds :
    (running.setSchedule [.assertReset]).schedule = .assertReset :: [] ∧
    (running.setRst true).rst = true ∧
    ((running.setRst true).setSchedule [.bus ⟨.rd32, 0, 0⟩]).schedule = .bus ⟨.rd32, 0, 0⟩ :: [] ∧
    ((running.setRst true).setSchedule [.engineTurn]).schedule = .engineTurn :: [] ∧
    (running.setRst true).schedule = [] ∧
    ((running.setRst true).setSchedule [.releaseReset]).schedule = .releaseReset :: [] := by decide

/-- ReadsHaveNoSideEffects. -/
theorem witness_ReadsHaveNoSideEffects : readFormat (Txn.fmt ⟨.rd32, 0x104, 0⟩) = true := by decide

/-- BusErrorExactlyInSixCases: each case of R292 at the boundary of its range, and accesses in none of them. -/
theorem witness_BusErrorExactlyInSixCases :
    (∀ t ∈ ([⟨.rd8, 0x3FF, 0⟩, ⟨.rd32, 0x3FD, 0⟩, ⟨.rd16, 0x1001, 0⟩, ⟨.rd8, 0x1100, 0⟩, ⟨.rd8, 0x2100, 0⟩,
        ⟨.wr8, 0x2000, 0⟩, ⟨.rd32, 0x17FFFE, 0⟩, ⟨.rd32, 0x400, 0⟩, ⟨.rd32, 0xFFC, 0⟩, ⟨.rd32, 0x3000, 0⟩,
        ⟨.rd32, 0xFFFFC, 0⟩, ⟨.rd32, 0x200000, 0⟩] : List Txn), BusErrorCase {} t) ∧
    ∀ t ∈ ([⟨.rd32, 0x3FC, 0⟩, ⟨.rd32, 0x17FFFC, 0⟩, ⟨.wr8, 0x10FF, 0⟩, ⟨.rd8, 0x20FF, 0⟩] : List Txn),
      ¬BusErrorCase {} t := by decide

/-- IllegalAccessesGetBusError: the first and the last form of each clause. -/
theorem witness_IllegalAccessesGetBusError :
    (∃ r, Instr.busErrMisalignedRd32At1 0xFF = .busErrMisalignedRd32At1 r) ∧
    (∃ a, Instr.busErrUnmappedRd32 0x400 = .busErrUnmappedRd32 a) ∧
    (∃ r d, Instr.busErrMisalignedWr32At1 0 1 = .busErrMisalignedWr32At1 r d) ∧
    (∃ j d, Instr.wrRx32 0xFFC 1 = .wrRx32 j d) := ⟨⟨_, rfl⟩, ⟨_, rfl⟩, ⟨_, _, rfl⟩, ⟨_, _, rfl⟩⟩

/-- SystemRegistersRead, at the default and at the largest depths. -/
theorem witness_SystemRegistersRead :
    State.reset.params.ok = true ∧ Params.ok ⟨4096, 4096, 524288, .lawful⟩ = true ∧
    Params.ok ⟨1, 1, 1, .reference⟩ = true := by decide

/-- IgnoredWritesChangeNothing: a listed instruction and a reserved offset. -/
theorem witness_IgnoredWritesChangeNothing :
    (Instr.wrEncPos 5 ∈ ([.wrEncNsamp 5, .wrEncPos 5] : List Instr)) ∧
    (∃ r, Instr.wrRsvd 7 5 = .wrRsvd r 5) := ⟨by decide, ⟨_, rfl⟩⟩

/-- IndexedDetectorWrites and EncoderConfigWrites: another register of the bank, an idle encoder. -/
theorem witness_EncoderConfigWrites : State.reset.enc.busy = false ∧ (0 : Fin 8) ≠ 7 := by decide

/-- LockedWritesIgnoredWhileBusy: each clause at the ends of its range. -/
theorem witness_LockedWritesIgnoredWhileBusy :
    running.enc.busy = true ∧
    ∀ t ∈ ([⟨.wr32, 0x100, 1⟩, ⟨.wr32, 0x108, 1⟩, ⟨.wr32, 0x10C, 1⟩, ⟨.wr32, 0x110, 1⟩, ⟨.wr32, 0x114, 1⟩,
        ⟨.wr32, 0x120, 1⟩, ⟨.wr32, 0x13C, 1⟩, ⟨.wr8, 0x1000, 1⟩, ⟨.wr8, 0x10FF, 1⟩, ⟨.wr32, 0x100000, 1⟩,
        ⟨.wr32, 0x17FFFC, 1⟩] : List Txn), readFormat t.fmt = false ∧ ¬BusErrorCase running.params t := by decide

/-- RamReadsLittleEndian: each window, at its last legal access, one beyond it, and one misaligned. -/
theorem witness_RamReadsLittleEndian :
    (∃ j : BitVec 12, Instr.rdTx32 252 = .rdTx32 j ∧ 0x1000 = 0x1000 ∧ 252 = j.toNat ∧ 4 = 4 ∧
      256 = State.reset.params.txDepth) ∧ (252 % 4 = 0 ∧ 252 + 4 ≤ 256) ∧ ¬(253 % 4 = 0 ∧ 253 + 4 ≤ 256) ∧
    (∃ j : BitVec 12, Instr.rdRx8 256 = .rdRx8 j ∧ 0x2000 = 0x2000 ∧ 256 = j.toNat ∧ 1 = 1 ∧
      256 = State.reset.params.rxDepth) ∧ ¬(256 % 1 = 0 ∧ 256 + 1 ≤ 256) ∧
    (∃ j : BitVec 20, Instr.rdPcm16 0x7FFFE = .rdPcm16 j ∧ 0x100000 = 0x100000 ∧ 0x7FFFE = j.toNat ∧ 2 = 2 ∧
      524288 = 2 * State.reset.params.pcmDepth) ∧ (0x7FFFE % 2 = 0 ∧ 0x7FFFE + 2 ≤ 524288) :=
  ⟨⟨252, by decide⟩, by decide, by decide, ⟨256, by decide⟩, by decide, ⟨0x7FFFE, by decide⟩, by decide⟩

/-- RamWritesSetTheirBytes: both windows, at the last legal access and one beyond it, with an idle encoder. -/
theorem witness_RamWritesSetTheirBytes :
    State.reset.enc.busy = false ∧
    (∃ (j : BitVec 12) (d : Half), Instr.wrTx16 254 7 = .wrTx16 j d ∧ 0x1000 = 0x1000 ∧ 254 = j.toNat ∧ 2 = 2 ∧
      256 = State.reset.params.txDepth ∧ (7 : Word) = d.setWidth 32) ∧ (254 % 2 = 0 ∧ 254 + 2 ≤ 256) ∧
    ¬(255 % 2 = 0 ∧ 255 + 2 ≤ 256) ∧
    (∃ (j : BitVec 20) (d : Word), Instr.wrPcm32 0x7FFFC 7 = .wrPcm32 j d ∧ 0x100000 = 0x100000 ∧
      0x7FFFC = j.toNat ∧ 4 = 4 ∧ 524288 = 2 * State.reset.params.pcmDepth ∧ (7 : Word) = d) ∧
    (0x7FFFC % 4 = 0 ∧ 0x7FFFC + 4 ≤ 524288) ∧ ¬(0x80000 % 4 = 0 ∧ 0x80000 + 4 ≤ 524288) :=
  ⟨by decide, ⟨254, 7, by decide⟩, by decide, by decide, ⟨0x7FFFC, 7, by decide⟩, by decide, by decide⟩

/-- PcmWordHoldsTwoSamples, at the last word of PCM RAM. -/
theorem witness_PcmWordHoldsTwoSamples :
    (0x7FFFC#20).toNat = 4 * 131071 ∧ 4 * 131071 + 4 ≤ 2 * State.reset.params.pcmDepth := by decide

/-- The payload of `running`. -/
theorem running_payload : running.Payload [0xA5] := by
  refine ⟨rfl, fun k h => ?_⟩
  have hk : k = 0 := by simpa using h
  subst hk
  rfl

/-- EngineStepWritesSample, before the last sample and at it. -/
theorem witness_EngineStepWritesSample :
    running.enc.busy = true ∧ running.Payload [0xA5] ∧
    running.enc.startOff.toNat + running.enc.pos.toNat < running.params.pcmDepth ∧
    running.enc.pos.toNat / running.enc.spw.toNat / 2 < (renderFrame running.enc.crcEn [0xA5]).length ∧
    (after .engineStep running).enc.pos.toNat + 1 = running.enc.nsamp :=
  ⟨by decide, running_payload, by decide, by decide, by decide⟩

/-- A render of the payload of `running` and its trailer, with no payload byte written. -/
def unwritten : State := { running with mem := [], enc := { running.enc with crcEn := true } }

/-- EngineStepDrawsSample: a sample of the unwritten byte, and one of the trailer over it. -/
theorem witness_EngineStepDrawsSample :
    unwritten.enc.busy = true ∧ unwritten.enc.startOff.toNat + unwritten.enc.pos.toNat < unwritten.params.pcmDepth ∧
    (6 / 4 / 2 < unwritten.enc.len.toNat ∧ unwritten.mem.lookup (0x1000 + 6 / 4 / 2) = none) ∧
    (unwritten.enc.len.toNat ≤ 8 / 4 / 2 ∧
      ∃ k, k < unwritten.enc.len.toNat ∧ unwritten.mem.lookup (0x1000 + k) = none) :=
  ⟨by decide, by decide, by decide, by decide, 0, by decide, by decide⟩

/-- EngineStepIdleOrOutside: an idle engine, and one whose next sample would be the first beyond PCM RAM. -/
theorem witness_EngineStepIdleOrOutside :
    State.reset.enc.busy = false ∧ running.enc.busy = true ∧
    State.params { running with params := { pcmDepth := 8 } } = { pcmDepth := 8 } ∧
    8 ≤ running.enc.startOff.toNat + running.enc.pos.toNat := by decide

/-- SineLaws, ReferenceSineRoundsRealSine and PeakStaysWithinAmp, at the largest amplitudes. -/
theorem witness_SineLaws : (16383 : Nat) ≤ 16383 ∧ ({ Enc.reset with amp := 0x7FFF } : Enc).amp.toNat ≤ 32767 ∧
    ({ Enc.reset with amp := 0x7FFF } : Enc).amp.toNat % 2 = 1 := by decide

/-- RenderFinishesInNsampSteps, RenderWritesWaveform: a render with two samples to go. -/
theorem witness_RenderWritesWaveform :
    running.Inv ∧ running.enc.busy = true ∧ running.Payload [0xA5] ∧
    1 < running.enc.nsamp - running.enc.pos.toNat ∧ running.enc.pos.toNat ≤ 7 ∧ 7 < running.enc.nsamp :=
  ⟨running_inv, by decide, running_payload, by decide, by decide, by decide⟩

/-- RenderInputsFixedWhileBusy, PendingIrqClearedOnlyByHost, StepKeepsInvariant and InvariantNeverStops: a step of a
state of the invariant. -/
theorem witness_StepKeepsInvariant :
    running.Inv ∧ running.params.ok = true ∧ running.enc.busy = true ∧
    ∃ t, step running = .next t ∧ t.enc.busy = true :=
  ⟨running_inv, by decide, by decide, _, rfl, by decide⟩

/-- DominanceIsMarginOfLeastArgmax: levels at both ends of the s16 range. -/
theorem witness_DominanceIsMarginOfLeastArgmax :
    let g : Group := ⟨32767, -32768, -32768, -32768⟩
    ∀ x ∈ [g.g0, g.g1, g.g2, g.g3], -32768 ≤ x ∧ x ≤ 32767 := by decide

/-- FilterSaturates and TieOrLowLevelNeverMatches: no background, a tie, and a level below FLOOR. -/
theorem witness_TieOrLowLevelNeverMatches :
    Det.reset.offset.get 7 = 0 ∧ (0 : Fin 4) ≠ 1 ∧
    [Det.reset.lowGroup.g0, Det.reset.lowGroup.g1].getD 0 0 = Det.reset.lowGroup.top ∧
    [Det.reset.lowGroup.g0, Det.reset.lowGroup.g1].getD 1 0 = Det.reset.lowGroup.top ∧
    ({ Det.reset with floor := 1 } : Det).highGroup.top < ({ Det.reset with floor := 1 } : Det).floor.toInt := by
  decide

/-- DetectorInvertsToneWiring: a slot of symbol 7 whose bands all differ, at the smallest margin above THRESH and
with both tones at FLOOR's level or above, and its neighbour at the margin THRESH itself. -/
theorem witness_DetectorInvertsToneWiring :
    let d := { (slot ⟨-500, 3301, 2999, 3000, 100, 2000, -32768, 3000⟩).det with floor := 3000 }
    let d' := { d with level := ⟨0, 3301, 2999, 3001, 100, 2000, 0, 3000⟩ }
    (∀ k : Fin 4, k ≠ 1 → (d.thresh.toNat : Int) < d.filtered 1 - d.filtered (Fin.ofNat 8 k.val)) ∧
    (∀ k : Fin 4, k ≠ 3 → (d.thresh.toNat : Int) < d.filtered 7 - d.filtered (Fin.ofNat 8 (4 + k.val))) ∧
    d.floor.toInt ≤ d.filtered 1 ∧ d.floor.toInt ≤ d.filtered 7 ∧ d.result = .sym 7 ∧ d'.result = .noMatch := by
  decide

/-- DetectorDecisionDependsOnSlotOnly: two machines that differ outside the slot. -/
theorem witness_DetectorDecisionDependsOnSlotOnly :
    let s := slot ⟨3000, 6000, 3000, 3000, 3000, 6000, 3000, 3000⟩
    let s' := { s with acc := closed.acc, enc := running.enc, irqStatus := 31 }
    s.det.level = s'.det.level ∧ s.det.offset = s'.det.offset ∧ s.det.thresh = s'.det.thresh ∧
    s.det.floor = s'.det.floor ∧ (∃ t, exec (.detPush 1) s = .next t) ∧ ∃ t, exec (.detPush 3) s' = .next t :=
  ⟨rfl, rfl, rfl, rfl, ⟨_, rfl⟩, ⟨_, rfl⟩⟩

/-- AccStepSymRunMode and AccStepSymChangeMode. -/
theorem witness_AccStepSym :
    State.reset.acc.mode = .run ∧ (after (.wrRxCfg 0x0102) .reset).acc.mode = .change := by decide

/-- RunEmitsOncePerWord: the longest run from reset that RX RAM has room for, a run that goes on in the middle of a
frame up to the last count, and a new run after it. -/
theorem witness_RunEmitsOncePerWord :
    (State.reset.acc.mode = .run ∧ State.reset.acc.slotsPerWord ≠ 0 ∧ ¬(State.reset.acc.runValid = true) ∧
      State.reset.params.ok = true ∧ State.reset.acc.frameValid = false ∧
      State.reset.acc.nibbles + 512 ≤ 2 * State.reset.params.rxDepth) ∧
    (running.acc.mode = .run ∧ running.acc.slotsPerWord ≠ 0 ∧ running.acc.runValid = true ∧
      running.acc.runNib = 0xA ∧ running.acc.runCnt.toNat + 65534 ≤ 65535) ∧
    (running.acc.runNib ≠ 0xB ∧ running.acc.nibbles + 5 ≤ 2 * running.params.rxDepth) := by decide

/-- ReceivedFrameIsValid: bytes that fill RX RAM, and the close of a frame of one byte. -/
theorem witness_ReceivedFrameIsValid :
    (let s := { State.reset with params := { rxDepth := 2 } }
     s.params.ok = true ∧ s.acc.fresh ∧ s.acc.mode = .run ∧ s.acc.slotsPerWord = 1 ∧
     [(0x5A : Byte)].length + 1 ≤ s.params.rxDepth) ∧
    running.Inv ∧ running.acc.frameActive = true ∧ running.acc.count.toNat = ([] : List Byte).length + 1 ∧
    running.mem.writtenBytes 0x2000 (([] : List Byte).length + 1) = some ([] ++ [0x5A]) := by
  refine ⟨?_, running_inv, by decide, by decide, by decide⟩
  unfold Acc.fresh
  decide

/-- ClosedFrameBytesKept: a nibble emitted while a frame waits. -/
theorem witness_ClosedFrameBytesKept :
    let s := closed.offer ⟨.wr32, 0x200, 1⟩
    s.params.ok = true ∧ s.acc.frameValid = true ∧ ∃ t, step s = .next t ∧ t.powerCycles = s.powerCycles :=
  ⟨by decide, by decide, _, rfl, by decide⟩

/-- PendingIrqClearedOnlyByHost: a W1C write of RX_FRAME. -/
theorem witness_PendingIrqClearedOnlyByHost :
    ∃ t, step (closed.offer ⟨.wr32, 0x008, 0x8⟩) = .next t ∧
      (closed.offer ⟨.wr32, 0x008, 0x8⟩).irqStatus.getLsbD 3 = true ∧ t.irqStatus.getLsbD 3 = false :=
  ⟨_, rfl, by decide, by decide⟩

/-- EncoderSharesNoState and SlotCounterCountsPushes: an instruction of each kind that completes. -/
theorem witness_SlotCounterCountsPushes :
    (∃ t, exec (.detPush 1) closed = .next t) ∧ (∃ t, exec (.srst 1) closed = .next t) ∧
    ∃ t, exec .engineStep running = .next t := ⟨⟨_, rfl⟩, ⟨_, rfl⟩, ⟨_, rfl⟩⟩

/-- EncoderSharesNoState: runs that differ in ENC, and in DET and ACC. -/
theorem witness_EncoderSharesNoState :
    (∃ u, exec (.detPush 1) { closed with enc := running.enc } = .next u) ∧
    (∃ t, exec (.encStart 3) closed = .next t) ∧
    ∃ t, exec .engineStep { running with det := closed.det, acc := closed.acc } = .next t :=
  ⟨⟨_, rfl⟩, ⟨_, rfl⟩, ⟨_, rfl⟩⟩

/-! ### Host programs -/

/-- A program's run under an interleaving: what it has left to do, how many transactions it made, and whether its
assertions held. -/
def ran (s : State) (p : List HostLine) (ts : List HostTurn) : Option (List HostLine × Nat × Bool) :=
  match (HostRun.start s p).turns ts with
  | .next q => some (q.todo, q.issued.length, q.held)
  | _ => none

/-- R141, R142: a poll on BUSY = 0 reads again while the render has samples left, and the line behind it sees t. -/
theorem test_poll_busy :
    ran running (hostPoll 0x104 1 0) [.master, .other, .master] = some (hostPoll 0x104 1 0, 2, true) ∧
    ran running (hostPoll 0x104 1 0 ++ [.expect "t" 0]) [.master, .other, .other, .master, .master] =
      some ([], 2, true) := by decide

/-- R91, R141, U15: an ERROR read answers t = 0, which may end a poll; a poll for what a register never reads as goes
on. -/
theorem test_poll_ends :
    ran .reset (hostPoll 0x3000 0xFF 0) [.master] = some ([], 1, true) ∧
    ran .reset (hostPoll 0x3000 0xFF 1) [.master, .master] = some (hostPoll 0x3000 0xFF 1, 2, true) ∧
    ran .reset (hostPoll 0 0xFF 0) [.master, .other, .master] = some (hostPoll 0 0xFF 0, 2, true) := by decide

/-- R141: the other pseudo-instructions, from the spec's text. -/
theorem test_pseudo_instructions :
    hostStart false ++ hostStart true ++ hostFlush ++ hostAck ++ hostSrst ++ hostFillPcm 3 2 7 =
      [.wr32 0x100 1, .wr32 0x100 3, .wr32 0x300 1, .wr32 0x300 2, .wr32 4 1, .wr16 0x100006 7, .wr16 0x100008 7] ∧
    (hostPush ⟨1, 2, 3, 4, 5, 6, 7, 0x8000⟩).drop 7 = [.wr32 0x23C 0x8000, .wr32 0x200 1] := by decide

/-- PollRepeatsUntilCondition: a poll on BUSY of a busy engine, one read of it that does not end the poll, and a poll
of ID for a word it never reads as. -/
theorem witness_PollRepeatsUntilCondition :
    (HostRun.start running (hostPoll 0x104 1 0)).todo = .poll 0x104 1 0 :: [] ∧ running.rst = false ∧
    (∃ q, (HostRun.start running (hostPoll 0x104 1 0)).turns [.master] = .next q ∧ q.modem.reply = .read .okay 1) ∧
    (1 : Word) &&& 1 ≠ 0 ∧
    (HostRun.start running (hostPoll 0 0xFF 0)).todo = .poll 0 0xFF 0 :: [] ∧ (0x4D4F4445 : Word) &&& 0xFF ≠ 0 ∧
    running.schedule = [] :=
  ⟨rfl, rfl, ⟨_, rfl, by decide⟩, by decide, rfl, by decide, rfl⟩

end Sys2Proof.Tests
end

/-!
PROOFS. The sides of MODEM: which blocks each row of the opcode map acts on, and the operations it can run. Every
later proof about all instructions splits on the side and cites what is said here once.
-/

namespace Sys2Proof

/-- The part of MODEM an instruction can change: none but IRQ_STATUS, IRQ_ENABLE and the reply; ENC with the TX and
PCM bytes; DET and ACC with the RX bytes; or every register. -/
inductive Side where
  | quiet
  | enc
  | rx
  | reset

/-- The side each row of the opcode map acts on. -/
def Instr.side : Instr → Side
  | .srst _ => .reset
  | .encStart _ | .wrEncCtrl _ | .wrEncStatus _ | .wrEncSpw _ | .wrEncAmp _ | .wrEncStartOff _ | .wrEncLen _
  | .wrEncInc _ _ | .wrTx8 _ _ | .wrTx16 _ _ | .wrTx32 _ _ | .wrPcm8 _ _ | .wrPcm16 _ _ | .wrPcm32 _ _
  | .engineStep => .enc
  | .detPush _ | .wrDetThresh _ | .wrDetFloor _ | .wrDetLevel _ _ | .wrDetOffset _ _ | .rxFlush _ | .rxAck _
  | .rxAckFlush _ | .wrRxCfg _ | .wrRxStatus _ | .accStep _ | .frameClose => .rx
  | _ => .quiet

namespace Machine

open Sys2Proof.Config

/-! ### What an instruction of each side does -/

/-- `t` is `s` but for IRQ_STATUS, IRQ_ENABLE and the reply. -/
def SameBlocks (s t : State) : Prop :=
  ∃ v e r, t = ((s.setIrqStatus v).setIrqEnable e).setReply r

/-- A RAM read changes no block (R160). -/
theorem ramRead_quiet (r : Ram) (w : Width) (i : Nat) (s : State) :
    ∃ t, ramRead r w i s = .next t ∧ SameBlocks s t := by
  obtain ⟨-, h⟩ | ⟨-, h⟩ := ramRead_cases r w i s
  · exact ⟨_, h, _, _, _, rfl⟩
  · exact ⟨_, h, _, _, _, rfl⟩

/-- An instruction of no side answers its transaction and never stops. -/
theorem exec_quiet {i : Instr} (h : i.side = .quiet) (s : State) : ∃ t, exec i s = .next t ∧ SameBlocks s t := by
  cases i
  case rdTx8 j | rdRx8 j | rdPcm8 j | rdTx16 j | rdRx16 j | rdPcm16 j | rdTx32 j | rdRx32 j | rdPcm32 j =>
    exact ramRead_quiet _ _ j.toNat s
  all_goals cases h
  all_goals exact ⟨_, rfl, _, _, _, rfl⟩

/-- `e'` has new configuration values in place of those of `e`: a legal AMP, and the status bits and the position
kept (R38 to R46). -/
structure Enc.Configured (e e' : Enc) : Prop where
  busy : e'.busy = e.busy
  errCfg : e'.errCfg = e.errCfg
  errBuf : e'.errBuf = e.errBuf
  cause : e'.cfgCause = e.cfgCause
  amp : e.amp.toNat ≤ 32767 → e'.amp.toNat ≤ 32767

/-- The operations of ENC's side: a locked write of a configuration register, START, the clearing of WERR, a write of
TX or PCM RAM, and one sample. -/
inductive EncOp : (State → StepResult) → Prop where
  | config (f : Enc → Enc) (hf : ∀ e, Enc.Configured e (f e)) :
      EncOp fun s => .next (s.lockedWrite fun t => t.setEnc (f t.enc))
  | start (c : Bool) : EncOp fun s => .next (s.lockedWrite fun t => t.startRender c)
  | clearWerr (k : Bool) : EncOp fun s => .next (s.setEnc { s.enc with werr := s.enc.werr && k }).replyOkay
  | ram (r : Ram) (w : Width) (j : Nat) (v : Word) (hr : (r = .tx ∧ j < 0x1000) ∨ r = .pcm) :
      EncOp (ramWrite r w j v)
  | engine : EncOp execEngineStep

theorem ampField_le (d : Word) : (ampField d).toNat ≤ 32767 := by
  unfold ampField
  split
  · decide
  · omega

/-- Every instruction of ENC's side is one of the operations of that side. -/
theorem exec_enc {i : Instr} (h : i.side = .enc) : EncOp (exec i) := by
  cases i
  case encStart d => exact .start (encCrcEnField d)
  case wrEncStatus d => exact .clearWerr (!d.getLsbD 3)
  case engineStep => exact .engine
  case wrEncAmp d =>
    exact .config (fun e => { e with amp := ampField d }) fun _ => ⟨rfl, rfl, rfl, rfl, fun _ => ampField_le d⟩
  case wrEncCtrl d =>
    exact .config (fun e => { e with crcEn := encCrcEnField d }) fun _ => ⟨rfl, rfl, rfl, rfl, id⟩
  case wrEncSpw d => exact .config (fun e => { e with spw := spwField d }) fun _ => ⟨rfl, rfl, rfl, rfl, id⟩
  case wrEncStartOff d => exact .config (fun e => { e with startOff := d }) fun _ => ⟨rfl, rfl, rfl, rfl, id⟩
  case wrEncLen d => exact .config (fun e => { e with len := halfField d }) fun _ => ⟨rfl, rfl, rfl, rfl, id⟩
  case wrEncInc k d => exact .config (fun e => { e with inc := e.inc.set k d }) fun _ => ⟨rfl, rfl, rfl, rfl, id⟩
  case wrTx8 j d => exact .ram .tx .w8 j.toNat (d.setWidth 32) (.inl ⟨rfl, j.isLt⟩)
  case wrTx16 j d => exact .ram .tx .w16 j.toNat (d.setWidth 32) (.inl ⟨rfl, j.isLt⟩)
  case wrTx32 j d => exact .ram .tx .w32 j.toNat d (.inl ⟨rfl, j.isLt⟩)
  case wrPcm8 j d => exact .ram .pcm .w8 j.toNat (d.setWidth 32) (.inr rfl)
  case wrPcm16 j d => exact .ram .pcm .w16 j.toNat (d.setWidth 32) (.inr rfl)
  case wrPcm32 j d => exact .ram .pcm .w32 j.toNat d (.inr rfl)
  all_goals cases h

/-- `a'` has new RX_CFG fields and a new LOST in place of those of `a`, S still not 0 (R56, R158). -/
def Acc.Reconfigured (a a' : Acc) : Prop :=
  ∃ c m w g l, (a.slotsPerWord ≠ 0 → w ≠ 0) ∧
    a' = { a with crcEn := c, mode := m, slotsPerWord := w, gapSlots := g, lost := l }

/-- `d'` has new parameters or levels in place of those of `d` (R48, R49, R53, R54). -/
def Det.Reconfigured (d d' : Det) : Prop :=
  ∃ t f l o, d' = { d with thresh := t, floor := f, level := l, offset := o }

/-- The operations of the side of DET and ACC: register writes, and what 42_detector and 43_accumulator define. -/
inductive RxOp : Instr → (State → State) → Prop where
  | det {i : Instr} (f : Det → Det) (hf : ∀ d, Det.Reconfigured d (f d)) :
      RxOp i fun s => (s.setDet (f s.det)).replyOkay
  | acc {i : Instr} (f : Acc → Acc) (hf : ∀ a, Acc.Reconfigured a (f a)) :
      RxOp i fun s => (s.setAcc (f s.acc)).replyOkay
  | push (d : Word) : RxOp (.detPush d) fun s => s.pushSlot.replyOkay
  | flush (d : Word) : RxOp (.rxFlush d) fun s => s.frameClose.replyOkay
  | ack (d : Word) : RxOp (.rxAck d) fun s => s.ackFrame.replyOkay
  | ackFlush (d : Word) : RxOp (.rxAckFlush d) fun s => s.ackFrame.frameClose.replyOkay
  | slot (r : SlotResult) : RxOp (.accStep r) fun s => s.accStep r
  | close : RxOp .frameClose State.frameClose

theorem slotsPerWordField_ne_zero (d : Word) : slotsPerWordField d ≠ 0 := by
  unfold slotsPerWordField
  split
  · decide
  · assumption

/-- Every instruction of the side of DET and ACC is one of the operations of that side. -/
theorem exec_rx {i : Instr} (h : i.side = .rx) : ∃ f, RxOp i f ∧ ∀ s, exec i s = .next (f s) := by
  cases i
  case wrDetThresh d =>
    exact ⟨_, .det (fun e => { e with thresh := halfField d }) fun _ => ⟨_, _, _, _, rfl⟩, fun _ => rfl⟩
  case wrDetFloor d =>
    exact ⟨_, .det (fun e => { e with floor := halfField d }) fun _ => ⟨_, _, _, _, rfl⟩, fun _ => rfl⟩
  case wrDetLevel j d =>
    exact ⟨_, .det (fun e => { e with level := e.level.set j (halfField d) }) fun _ => ⟨_, _, _, _, rfl⟩,
      fun _ => rfl⟩
  case wrDetOffset j d =>
    exact ⟨_, .det (fun e => { e with offset := e.offset.set j (halfField d) }) fun _ => ⟨_, _, _, _, rfl⟩,
      fun _ => rfl⟩
  case wrRxCfg d =>
    exact ⟨_, .acc (fun a => { a with
        crcEn := rxCrcEnField d, mode := modeField d
        slotsPerWord := slotsPerWordField d, gapSlots := gapSlotsField d })
      fun _ => ⟨_, _, _, _, _, fun _ => slotsPerWordField_ne_zero d, rfl⟩, fun _ => rfl⟩
  case wrRxStatus d =>
    exact ⟨_, .acc (fun a => { a with lost := a.lost && !d.getLsbD 5 }) fun _ => ⟨_, _, _, _, _, id, rfl⟩,
      fun _ => rfl⟩
  case detPush d => exact ⟨_, .push d, fun _ => rfl⟩
  case rxFlush d => exact ⟨_, .flush d, fun _ => rfl⟩
  case rxAck d => exact ⟨_, .ack d, fun _ => rfl⟩
  case rxAckFlush d => exact ⟨_, .ackFlush d, fun _ => rfl⟩
  case accStep r => exact ⟨_, .slot r, fun _ => rfl⟩
  case frameClose => exact ⟨_, .close, fun _ => rfl⟩
  all_goals cases h

/-- An instruction of the side of DET and ACC never stops. -/
theorem exec_rx_next {i : Instr} (h : i.side = .rx) (s : State) : ∃ t, exec i s = .next t := by
  obtain ⟨f, -, hexec⟩ := exec_rx h
  exact ⟨_, hexec s⟩

/-- The soft reset (R154, R331). -/
theorem exec_srst (d : Word) (s : State) : exec (.srst d) s = .next s.softReset.replyOkay := rfl

/-- An instruction that acts on every register is the soft reset. -/
theorem eq_srst_of_side {i : Instr} (h : i.side = .reset) : ∃ d, i = .srst d := by
  cases i
  case srst d => exact ⟨d, rfl⟩
  all_goals cases h

end Machine

end Sys2Proof

/-!
PROOFS. What each side leaves alone: ENC with the TX and PCM bytes, or DET and ACC with the RX bytes.
-/

namespace Sys2Proof.Machine

open Sys2Proof.Config

/-- The registers of DET and ACC and every RX byte are kept (R66, R64, R93). -/
structure KeepsRx (s t : State) : Prop where
  det : t.det = s.det
  acc : t.acc = s.acc
  bytes : ∀ a, 0x2000 ≤ a → a < 0x3000 → t.mem.lookup a = s.mem.lookup a

/-- The registers of ENC and every TX and PCM byte are kept (R65, R92, R95). -/
structure KeepsEnc (s t : State) : Prop where
  enc : t.enc = s.enc
  bytes : ∀ a, (0x1000 ≤ a ∧ a < 0x2000) ∨ 0x100000 ≤ a → t.mem.lookup a = s.mem.lookup a

/-- A legal access is naturally aligned and stays inside the RAM's depth (R96, R99). -/
theorem ramAccessOk_bound {p : Params} {r : Ram} {w : Width} {i : Nat} (h : ramAccessOk p r w i = true) :
    i % w.bytes = 0 ∧ i + w.bytes ≤ r.bytes p := by
  simpa [ramAccessOk] using h

/-- A naturally aligned access that begins in the TX window ends in it, whatever the depth (R92, R99). -/
theorem aligned_lt_window {w : Width} {j : Nat} (ha : j % w.bytes = 0) (hj : j < 0x1000) : j + w.bytes ≤ 0x1000 := by
  cases w <;> simp only [Width.bytes] at ha ⊢ <;> omega

/-- A sample writes PCM bytes and ENC's registers only (R182). -/
theorem execEngineStep_keeps {s t : State} (h : execEngineStep s = .next t) :
    KeepsRx s t ∧ t.params = s.params := by
  obtain ⟨-, rfl⟩ | ⟨-, -, he⟩ := execEngineStep_cases h
  · exact ⟨⟨rfl, rfl, fun _ _ _ => rfl⟩, rfl⟩
  · have hpcm : ∀ a, a < 0x3000 → (s.mem.writeLE (pcmAddr (s.enc.startOff.toNat + s.enc.pos.toNat))
        (s.engineSample.setWidth 32) 2).lookup a = s.mem.lookup a := fun a ha =>
      Memory.lookup_writeLE_outside _ _ _ _ _ (.inl (by simp [pcmAddr, Ram.base]; omega))
    subst he
    split
    · exact ⟨⟨rfl, rfl, fun a _ ha => hpcm a ha⟩, rfl⟩
    · exact ⟨⟨rfl, rfl, fun a _ ha => hpcm a ha⟩, rfl⟩

/-- No operation of ENC's side changes DET, ACC or an RX byte (R340). -/
theorem EncOp.keepsRx {g : State → StepResult} (hg : EncOp g) {s t : State} (hx : g s = .next t) :
    KeepsRx s t ∧ t.params = s.params := by
  cases hg with
  | config f hf =>
    obtain rfl := Host.Outcome.next.inj hx
    obtain ⟨-, he⟩ | ⟨-, he⟩ := s.lockedWrite_cases (fun t => t.setEnc (f t.enc)) <;> rw [he]
    · exact ⟨⟨rfl, rfl, fun _ _ _ => rfl⟩, rfl⟩
    · exact ⟨⟨rfl, rfl, fun _ _ _ => rfl⟩, rfl⟩
  | start c =>
    obtain rfl := Host.Outcome.next.inj hx
    obtain ⟨-, he⟩ | ⟨-, he⟩ := s.lockedWrite_cases (fun t => t.startRender c) <;> rw [he]
    · exact ⟨⟨rfl, rfl, fun _ _ _ => rfl⟩, rfl⟩
    · exact ⟨⟨by simp, by simp, by simp⟩, by simp⟩
  | clearWerr k =>
    obtain rfl := Host.Outcome.next.inj hx
    exact ⟨⟨rfl, rfl, fun _ _ _ => rfl⟩, rfl⟩
  | ram r w j v hr =>
    obtain ⟨-, he⟩ | ⟨-, -, he⟩ | ⟨hok, -, he⟩ := ramWrite_cases r w j v s <;>
      obtain rfl := Host.Outcome.next.inj (he.symm.trans hx)
    · exact ⟨⟨rfl, rfl, fun _ _ _ => rfl⟩, rfl⟩
    · exact ⟨⟨rfl, rfl, fun _ _ _ => rfl⟩, rfl⟩
    · refine ⟨⟨rfl, rfl, fun a ha ha' => Memory.lookup_writeLE_outside _ _ _ _ _ ?_⟩, rfl⟩
      obtain ⟨rfl, hj⟩ | rfl := hr
      · have := aligned_lt_window (ramAccessOk_bound hok).1 hj
        exact .inr (by simp only [Ram.base]; omega)
      · exact .inl (by simp only [Ram.base]; omega)
  | engine => exact execEngineStep_keeps hx

/-- No instruction but those of the side of DET and ACC and the soft reset changes DET, ACC or an RX byte. -/
theorem exec_keepsRx {i : Instr} {s t : State} (hi : i.side = .quiet ∨ i.side = .enc) (hx : exec i s = .next t) :
    KeepsRx s t ∧ t.params = s.params := by
  obtain hi | hi := hi
  · obtain ⟨u, hu, v, e, r, rfl⟩ := exec_quiet hi s
    obtain rfl := Host.Outcome.next.inj (hu.symm.trans hx)
    exact ⟨⟨rfl, rfl, fun _ _ _ => rfl⟩, rfl⟩
  · exact (exec_enc hi).keepsRx hx

/-! The bytes outside the RX window (R92), which no operation of ACC writes. -/

theorem State.storeByte_lookup (s : State) (b : Byte) {a : Nat} (ha : a < 0x2000 ∨ 0x100000 ≤ a) :
    (s.storeByte b).mem.lookup a = s.mem.lookup a := by
  obtain ⟨-, he⟩ | ⟨-, he⟩ := s.storeByte_cases b <;> rw [he]
  · have hcount := s.acc.count.isLt
    exact Memory.lookup_write_ne _ _ (by simp only [Ram.base]; omega)
  · rfl

theorem State.assembleNibble_lookup (s : State) (x : Nibble) {a : Nat} (ha : a < 0x2000 ∨ 0x100000 ≤ a) :
    (s.assembleNibble x).mem.lookup a = s.mem.lookup a := by
  unfold State.assembleNibble
  split
  · exact s.storeByte_lookup _ ha
  · rfl

theorem State.emitNibble_lookup (s : State) (x : Nibble) {a : Nat} (ha : a < 0x2000 ∨ 0x100000 ≤ a) :
    (s.emitNibble x).mem.lookup a = s.mem.lookup a := by
  unfold State.emitNibble State.acceptNibble
  split
  · rfl
  · exact State.assembleNibble_lookup _ x ha

@[simp] theorem State.frameClose_mem (s : State) : s.frameClose.mem = s.mem := by
  obtain ⟨-, he⟩ | ⟨-, he⟩ := s.frameClose_cases <;> simp [he]

@[simp] theorem State.ackFrame_mem (s : State) : s.ackFrame.mem = s.mem := by
  unfold State.ackFrame
  split <;> rfl

theorem State.accStep_lookup (s : State) (r : SlotResult) {a : Nat} (ha : a < 0x2000 ∨ 0x100000 ≤ a) :
    (s.accStep r).mem.lookup a = s.mem.lookup a := by
  obtain he | ⟨x, -, he⟩ | ⟨-, -, he⟩ := s.accStep_cases r <;> rw [he]
  · rfl
  · exact State.emitNibble_lookup _ x ha
  · rw [State.frameClose_mem, State.setAcc_mem]

/-- No operation of the side of DET and ACC changes ENC or a TX or PCM byte (R222). -/
theorem RxOp.keepsEnc {i : Instr} {f : State → State} (hf : RxOp i f) (s : State) :
    KeepsEnc s (f s) ∧ (f s).params = s.params := by
  cases hf with
  | det | acc => exact ⟨⟨rfl, fun _ _ => rfl⟩, rfl⟩
  | push =>
    exact ⟨⟨by simp [State.pushSlot], fun a ha => State.accStep_lookup _ _ (by omega)⟩, by simp [State.pushSlot]⟩
  | slot r => exact ⟨⟨by simp, fun a ha => State.accStep_lookup _ _ (by omega)⟩, by simp⟩
  | flush | ack | ackFlush | close => exact ⟨⟨by simp, by simp⟩, by simp⟩

/-- No instruction but those of ENC's side and the soft reset changes ENC or a TX or PCM byte. -/
theorem exec_keepsEnc {i : Instr} {s t : State} (hi : i.side = .quiet ∨ i.side = .rx) (hx : exec i s = .next t) :
    KeepsEnc s t ∧ t.params = s.params := by
  obtain hi | hi := hi
  · obtain ⟨u, hu, v, e, r, rfl⟩ := exec_quiet hi s
    obtain rfl := Host.Outcome.next.inj (hu.symm.trans hx)
    exact ⟨⟨rfl, fun _ _ => rfl⟩, rfl⟩
  · obtain ⟨f, hf, hexec⟩ := exec_rx hi
    obtain rfl := Host.Outcome.next.inj ((hexec s).symm.trans hx)
    exact hf.keepsEnc s

end Sys2Proof.Machine

/-!
PROOFS. The invariant (O58): each side keeps its own part, and leaves the other side's alone.
-/

namespace Sys2Proof.Machine

open Sys2Proof.Config

/-! ### The memory part of the invariant -/

/-- The memory is in canonical form and holds RAM bytes only (R67, R96). -/
def Memory.InRams (p : Params) (m : Memory) : Prop := m.wf = true ∧ ∀ c ∈ m, ramByte p c.1

theorem Memory.InRams.writeLE {p : Params} {m : Memory} (h : m.InRams p) (r : Ram) {a n : Nat} (v : Word)
    (ha : r.base ≤ a) (hn : a + n ≤ r.base + r.bytes p) : (m.writeLE a v n).InRams p := by
  obtain ⟨hwf, hram⟩ := h
  refine ⟨Memory.wf_writeLE _ _ _ hwf, fun c hc => ?_⟩
  obtain hin | hold := Memory.mem_writeLE hc
  · exact ⟨r, by omega, by omega⟩
  · exact hram c hold

theorem Memory.InRams.write {p : Params} {m : Memory} (h : m.InRams p) (r : Ram) {a : Nat} (b : Byte)
    (ha : r.base ≤ a) (hn : a < r.base + r.bytes p) : (m.write a b).InRams p := by
  obtain ⟨hwf, hram⟩ := h
  refine ⟨Memory.wf_write _ _ hwf, fun c hc => ?_⟩
  obtain rfl | hold := Memory.mem_write hc
  · exact ⟨r, ha, hn⟩
  · exact hram c hold

/-- The ranges of the three depths (R11 to R13), which keep every counter below from wrapping around. -/
theorem Params.ok_iff (p : Params) : p.ok = true ↔
    1 ≤ p.txDepth ∧ p.txDepth ≤ 4096 ∧ 1 ≤ p.rxDepth ∧ p.rxDepth ≤ 4096 ∧ 1 ≤ p.pcmDepth ∧ p.pcmDepth ≤ 524288 := by
  simp [Params.ok, and_assoc]

/-! ### ENC's part of the invariant -/

theorem Enc.Inv.reset (p : Params) : Enc.Inv p .reset := by
  constructor <;> simp [Enc.reset]

theorem Enc.Inv.setWerr {p : Params} {e : Enc} (h : e.Inv p) (b : Bool) : Enc.Inv p { e with werr := b } :=
  { h with }

theorem Enc.Inv.configured {p : Params} {e e' : Enc} (h : e.Inv p) (hb : e.busy = false) (hc : e.Configured e') :
    e'.Inv p := by
  obtain ⟨busy, errCfg, errBuf, cause, amp⟩ := hc
  have idle : e'.busy ≠ true := by simp [busy, hb]
  exact {
    amp_legal := amp h.amp_legal
    cause_iff := by simpa [errCfg, cause] using h.cause_iff
    one_error := by simpa [errCfg, errBuf] using h.one_error
    busy_no_error := fun hb' => absurd hb' idle
    busy_spw := fun hb' => absurd hb' idle
    busy_len := fun hb' => absurd hb' idle
    busy_inc := fun hb' => absurd hb' idle
    busy_span := fun hb' => absurd hb' idle
    busy_pos := fun hb' => absurd hb' idle }

/-- What a START that passes the configuration check knows (R171). -/
theorem cfgCheck_eq_none {p : Params} {e : Enc} (h : cfgCheck p e = .none) :
    e.spw ≠ 0 ∧ e.len.toNat ≤ p.txDepth ∧ incDistinct e.inc = true := by
  unfold cfgCheck at h
  split at h
  · cases h
  · next hspw =>
    split at h
    · cases h
    · next hlen =>
      split at h
      · next hinc => exact ⟨hspw, by omega, hinc⟩
      · cases h

/-- START of an idle encoder keeps ENC's invariant, whichever of its four ends it takes (R178). -/
theorem State.startWith_encInv (s : State) {e : Enc} (h : e.Inv s.params) (hb : e.busy = false) :
    (s.startWith e).enc.Inv s.params := by
  obtain ⟨hc, he⟩ | ⟨-, -, he⟩ | ⟨-, -, -, he⟩ | ⟨hc, hspan, hn, he⟩ := s.startWith_cases e <;> rw [he]
  · constructor <;> simp [hb, hc, h.amp_legal]
  · constructor <;> simp [hb, h.amp_legal]
  · constructor <;> simp [hb, h.amp_legal]
  · obtain ⟨hspw, hlen, hinc⟩ := cfgCheck_eq_none hc
    have hspan : e.startOff.toNat + e.nsamp ≤ s.params.pcmDepth := by simpa [bufTooSmall] using hspan
    exact {
      amp_legal := h.amp_legal
      cause_iff := by simp
      one_error := by simp
      busy_no_error := fun _ => ⟨rfl, rfl⟩
      busy_spw := fun _ => hspw
      busy_len := fun _ => hlen
      busy_inc := fun _ => hinc
      busy_span := fun _ => hspan
      busy_pos := fun _ => Nat.pos_of_ne_zero hn }

/-- One sample keeps ENC's invariant: ENC_POS does not wrap, and BUSY stays only while samples are left (R182). -/
theorem Enc.Inv.afterSample {p : Params} (hp : p.ok = true) {e : Enc} (h : e.Inv p) (hb : e.busy = true) :
    e.afterSample.Inv p := by
  have hpos := h.busy_pos hb
  have hspan := h.busy_span hb
  have hdepth : p.pcmDepth ≤ 524288 := by simp [Params.ok_iff] at hp; omega
  have hnext : (e.pos + 1).toNat = e.pos.toNat + 1 := by
    rw [BitVec.toNat_add]
    simp
    omega
  exact {
    amp_legal := h.amp_legal
    cause_iff := h.cause_iff
    one_error := h.one_error
    busy_no_error := fun _ => h.busy_no_error hb
    busy_spw := fun _ => h.busy_spw hb
    busy_len := fun _ => h.busy_len hb
    busy_inc := fun _ => h.busy_inc hb
    busy_span := fun _ => hspan
    busy_pos := fun hbusy => by
      have hleft : (e.pos + 1).toNat ≠ e.nsamp := by simpa [Enc.afterSample] using hbusy
      change (e.pos + 1).toNat < e.nsamp
      omega }

/-- The part of the invariant that ENC's side has to keep. -/
structure State.EncSideInv (s : State) : Prop where
  params_ok : s.params.ok = true
  mem : s.mem.InRams s.params
  enc : s.enc.Inv s.params

/-- A locked write keeps ENC's side when its effect on an idle encoder does (R340). -/
theorem State.EncSideInv.lockedWrite {s : State} (h : s.EncSideInv) {f : State → State}
    (hf : s.enc.busy = false → (f s).EncSideInv) : (s.lockedWrite f).EncSideInv := by
  obtain ⟨-, he⟩ | ⟨hb, he⟩ := s.lockedWrite_cases f <;> rw [he]
  · exact ⟨h.params_ok, h.mem, h.enc.setWerr true⟩
  · obtain ⟨hp, hm, he⟩ := hf hb
    exact ⟨hp, hm, he⟩

/-- Every operation of ENC's side keeps that side's part of the invariant. -/
theorem EncOp.encSideInv {g : State → StepResult} (hg : EncOp g) {s t : State} (h : s.EncSideInv)
    (hx : g s = .next t) : t.EncSideInv := by
  obtain ⟨hp, hm, henc⟩ := h
  cases hg with
  | config f hf =>
    obtain rfl := Host.Outcome.next.inj hx
    exact State.EncSideInv.lockedWrite ⟨hp, hm, henc⟩ fun hb => ⟨hp, hm, henc.configured hb (hf _)⟩
  | start c =>
    obtain rfl := Host.Outcome.next.inj hx
    refine State.EncSideInv.lockedWrite ⟨hp, hm, henc⟩ fun hb => ⟨by simpa, by simpa, ?_⟩
    rw [State.startRender_params]
    exact s.startWith_encInv (e := { s.enc with crcEn := c }) (henc.configured hb ⟨rfl, rfl, rfl, rfl, id⟩) hb
  | clearWerr k =>
    obtain rfl := Host.Outcome.next.inj hx
    exact ⟨hp, hm, henc.setWerr _⟩
  | ram r w j v hr =>
    obtain ⟨-, he⟩ | ⟨-, -, he⟩ | ⟨hok, -, he⟩ := ramWrite_cases r w j v s <;>
      obtain rfl := Host.Outcome.next.inj (he.symm.trans hx)
    · exact ⟨hp, hm, henc⟩
    · exact ⟨hp, hm, henc.setWerr true⟩
    · have hbound := (ramAccessOk_bound hok).2
      exact ⟨hp, hm.writeLE r v (by omega) (by omega), henc⟩
  | engine =>
    obtain ⟨-, rfl⟩ | ⟨hb, hlt, he⟩ := execEngineStep_cases hx
    · exact ⟨hp, hm, henc⟩
    · have hmem : (s.mem.writeLE (pcmAddr (s.enc.startOff.toNat + s.enc.pos.toNat))
          (s.engineSample.setWidth 32) 2).InRams s.params :=
        hm.writeLE .pcm _ (by simp [pcmAddr]) (by simp [pcmAddr, Ram.bytes]; omega)
      subst he
      split
      · exact ⟨hp, hmem, henc.afterSample hp hb⟩
      · exact ⟨hp, hmem, henc.afterSample hp hb⟩

/-! ### ACC's part of the invariant: first each change of ACC's registers, then each operation -/

theorem Acc.Inv.reset (p : Params) : Acc.Inv p .reset := by
  constructor <;> simp [Acc.reset]

theorem Acc.Inv.reconfigured {p : Params} {a a' : Acc} (h : a.Inv p) (hc : a.Reconfigured a') : a'.Inv p := by
  obtain ⟨c, m, w, g, l, hw, rfl⟩ := hc
  exact { h with slots_pos := hw h.slots_pos }

/-- A NoMatch slot: no run, and the run and the gap counter equal (R242, R248). -/
theorem Acc.Inv.trackSlot_noMatch {p : Params} {a : Acc} (h : a.Inv p) : ∃ c,
    (a.trackRun .noMatch).trackGap .noMatch =
      { a with runValid := false, runNib := 0, runCnt := c, gapCnt := c } := by
  cases hv : a.runValid with
  | false =>
    obtain ⟨hnib, hcnt⟩ := h.gap_run hv
    by_cases hsat : a.gapCnt = 0xFFFF#16
    · have hgrew : a.runGrew .noMatch = false := by simp [Acc.runGrew, Acc.sameRun, hv, hcnt, hsat]
      have hgap : a.gapGrew .noMatch = false := by simp [Acc.gapGrew, hsat]
      refine ⟨a.gapCnt, ?_⟩
      simp only [Acc.trackRun, Acc.trackGap, Acc.sameRun, hv, hgrew]
      cases a
      simp_all
    · have hgrew : a.runGrew .noMatch = true := by simp [Acc.runGrew, hcnt, hsat]
      refine ⟨a.gapCnt + 1, ?_⟩
      simp [Acc.trackRun, Acc.trackGap, Acc.sameRun, Acc.gapGrew, hv, hgrew, hsat, hnib, hcnt]
  | true =>
    obtain ⟨hgap, -⟩ := h.sym_run hv
    exact ⟨1, by simp [Acc.trackRun, Acc.trackGap, Acc.sameRun, Acc.gapGrew, hv, hgap]⟩

/-- A symbol slot: a run of the symbol of at least one slot, and no gap (R242, R248). -/
theorem Acc.Inv.trackSlot_sym {p : Params} {a : Acc} (h : a.Inv p) (x : Nibble) : ∃ c, c ≠ 0 ∧
    (a.trackRun (.sym x)).trackGap (.sym x) =
      { a with runValid := true, runNib := x, runCnt := c, gapCnt := 0 } := by
  by_cases hsame : a.runValid = true ∧ a.runNib = x
  · obtain ⟨hv, rfl⟩ := hsame
    by_cases hsat : a.runCnt = 0xFFFF#16
    · have hgrew : a.runGrew (.sym a.runNib) = false := by simp [Acc.runGrew, Acc.sameRun, hv, hsat]
      exact ⟨a.runCnt, (h.sym_run hv).2, by simp [Acc.trackRun, Acc.trackGap, Acc.sameRun, hv, hgrew]⟩
    · have hgrew : a.runGrew (.sym a.runNib) = true := by simp [Acc.runGrew, hsat]
      exact ⟨a.runCnt + 1, by bv_omega, by simp [Acc.trackRun, Acc.trackGap, Acc.sameRun, hv, hgrew]⟩
  · exact ⟨1, by decide, by simp [Acc.trackRun, Acc.trackGap, Acc.sameRun, hsame]⟩

theorem Acc.Inv.trackSlot {p : Params} {a : Acc} (h : a.Inv p) (r : SlotResult) :
    ((a.trackRun r).trackGap r).Inv p := by
  cases r with
  | noMatch =>
    obtain ⟨c, he⟩ := h.trackSlot_noMatch
    rw [he]
    exact { h with gap_run := fun _ => ⟨rfl, rfl⟩, sym_run := fun hv => nomatch hv }
  | sym x =>
    obtain ⟨c, hc, he⟩ := h.trackSlot_sym x
    rw [he]
    exact { h with
      gap_run := fun hv => by cases hv
      sym_run := fun _ => ⟨rfl, hc⟩ }

/-- The tracking of a slot leaves the frame alone. -/
theorem Acc.trackSlot_frame (a : Acc) (r : SlotResult) :
    ((a.trackRun r).trackGap r).count = a.count ∧ ((a.trackRun r).trackGap r).crc = a.crc ∧
      ((a.trackRun r).trackGap r).frameActive = a.frameActive := by
  cases r <;> simp only [Acc.trackGap, Acc.trackRun] <;> split_ifs <;> exact ⟨rfl, rfl, rfl⟩

theorem Acc.Inv.emitted {p : Params} {a : Acc} (h : a.Inv p) (x : Nibble) :
    Acc.Inv p { a with lastValid := true, lastNib := x } :=
  { h with active_last := fun _ => rfl, no_last := fun hl => nomatch hl }

theorem Acc.Inv.activate {p : Params} {a : Acc} (h : a.Inv p) (hv : a.frameValid = false)
    (hl : a.lastValid = true) : Acc.Inv p { a with frameActive := true } :=
  { h with
    hold := fun hv' => by simp [hv] at hv'
    idle := fun ha => nomatch ha
    no_frame := fun ha => nomatch ha
    active_last := fun _ => hl }

theorem Acc.Inv.holdHigh {p : Params} {a : Acc} (h : a.Inv p) (ha : a.frameActive = true) (x : Nibble) :
    Acc.Inv p { a with hi := x, nibPhase := true } :=
  { h with
    idle := fun ha' => by simp [ha] at ha'
    no_high := fun hn => nomatch hn }

theorem Acc.Inv.dropHigh {p : Params} {a : Acc} (h : a.Inv p) :
    Acc.Inv p { a with nibPhase := false, hi := 0 } :=
  { h with
    idle := fun ha => ⟨rfl, (h.idle ha).2⟩
    no_high := fun _ => rfl }

/-- While a frame is active no closed frame waits (R251). -/
theorem Acc.Inv.open_of_active {p : Params} {a : Acc} (h : a.Inv p) (ha : a.frameActive = true) :
    a.frameValid = false := by
  cases hv : a.frameValid with
  | false => rfl
  | true => simp [h.hold hv] at ha

/-- The count of a frame with room in RX RAM does not wrap around (R12, R252). -/
theorem Acc.count_succ {p : Params} (hp : p.ok = true) {a : Acc} (hroom : a.count.toNat < p.rxDepth) :
    (a.count + 1).toNat = a.count.toNat + 1 := by
  rw [Params.ok_iff] at hp
  rw [BitVec.toNat_add]
  simp
  omega

theorem Acc.Inv.store {p : Params} {a : Acc} (h : a.Inv p) (hp : p.ok = true) (ha : a.frameActive = true)
    (hroom : a.count.toNat < p.rxDepth) (c : Byte) : Acc.Inv p { a with count := a.count + 1, crc := c } := by
  have hv := h.open_of_active ha
  have hcount := Acc.count_succ hp hroom
  exact { h with
    count_le := by change (a.count + 1).toNat ≤ _; omega
    valid_len := fun hv' => by simp [hv] at hv'
    idle := fun ha' => by simp [ha] at ha'
    no_frame := fun ha' => by simp [ha] at ha'
    ovf_full := fun ho => by have := h.ovf_full ho; omega
    ok_frame := fun ho => by simp [(h.not_valid hv).1] at ho }

theorem Acc.Inv.overflow {p : Params} {a : Acc} (h : a.Inv p) (ha : a.frameActive = true)
    (hfull : p.rxDepth ≤ a.count.toNat) : Acc.Inv p { a with ovf := true } := by
  have hv := h.open_of_active ha
  exact { h with
    no_frame := fun ha' => by simp [ha] at ha'
    ovf_full := fun _ => le_antisymm h.count_le hfull
    ok_frame := fun ho => by simp [(h.not_valid hv).1] at ho }

/-- The verdict of a close promises a byte and no overflow (R265). -/
theorem Acc.integrity_bounds {a : Acc} (h : a.integrity = true) : 1 ≤ a.count.toNat ∧ a.ovf = false := by
  simp only [Acc.integrity, Bool.and_eq_true, decide_eq_true_eq, Bool.not_eq_true'] at h
  exact h.1

theorem Acc.Inv.closed {p : Params} {a : Acc} (h : a.Inv p) : a.closeFrame.clearStream.Inv p where
  slots_pos := h.slots_pos
  count_le := h.count_le
  valid_len := fun _ => rfl
  not_valid := fun hv => nomatch hv
  hold := fun _ => rfl
  idle := fun _ => ⟨rfl, rfl⟩
  no_frame := fun _ hv => nomatch hv
  active_last := fun ha => nomatch ha
  no_high := fun _ => rfl
  no_last := fun _ => rfl
  gap_run := fun _ => ⟨rfl, rfl⟩
  sym_run := fun hv => nomatch hv
  ovf_full := h.ovf_full
  ok_frame := Acc.integrity_bounds

theorem Acc.Inv.cleared {p : Params} {a : Acc} (h : a.Inv p) (ha : a.frameActive = false) :
    a.clearStream.Inv p :=
  { h with
    hold := fun _ => rfl
    idle := fun _ => ⟨rfl, rfl⟩
    no_frame := fun _ => h.no_frame ha
    active_last := fun ha' => nomatch ha'
    no_high := fun _ => rfl
    no_last := fun _ => rfl
    gap_run := fun _ => ⟨rfl, rfl⟩
    sym_run := fun hv => nomatch hv }

theorem Acc.Inv.acknowledged {p : Params} {a : Acc} (h : a.Inv p) :
    Acc.Inv p { a with frameValid := false, crcOk := false, ovf := false, count := 0, frameLen := 0 } :=
  { h with
    count_le := Nat.zero_le _
    valid_len := fun hv => nomatch hv
    not_valid := fun _ => ⟨rfl, rfl⟩
    hold := fun hv => nomatch hv
    no_frame := fun _ _ => ⟨rfl, rfl⟩
    ovf_full := fun ho => nomatch ho
    ok_frame := fun ho => nomatch ho }

/-- The part of the invariant that the side of DET and ACC has to keep, but for DET itself. -/
structure State.AccSideInv (s : State) : Prop where
  params_ok : s.params.ok = true
  mem : s.mem.InRams s.params
  acc : s.acc.Inv s.params
  frame : s.FrameBytes

/-- The invariant of ACC's side speaks of the parameters, the memory and ACC alone. -/
theorem State.AccSideInv.congr {s t : State} (h : s.AccSideInv) (hp : t.params = s.params) (hm : t.mem = s.mem)
    (ha : t.acc = s.acc) : t.AccSideInv := by
  obtain ⟨hok, hmem, hacc, hframe⟩ := h
  constructor
  · rwa [hp]
  · rwa [hp, hm]
  · rwa [hp, ha]
  · simpa only [State.FrameBytes, hm, ha] using hframe

/-- With no closed frame waiting the CRC register is the CRC-8 of the bytes stored, a frame active or not. -/
theorem State.AccSideInv.crc_of_open {s : State} (h : s.AccSideInv) (hv : s.acc.frameValid = false) :
    ∃ bs, s.mem.writtenBytes Ram.rx.base s.acc.count.toNat = some bs ∧ s.acc.crc = crc8 bs := by
  obtain ⟨bs, hbs, hcrc⟩ := h.frame
  refine ⟨bs, hbs, ?_⟩
  cases ha : s.acc.frameActive with
  | true => exact hcrc ha
  | false =>
    have hcount := (h.acc.no_frame ha hv).1
    rw [hcount] at hbs
    cases hbs
    exact (h.acc.idle ha).2

/-- New values of ACC that keep the bytes of the frame keep the invariant of its side. -/
theorem State.AccSideInv.setAcc {s : State} (h : s.AccSideInv) {a : Acc} (ha : a.Inv s.params)
    (hcount : a.count = s.acc.count)
    (hcrc : a.frameActive = true → a.crc = s.acc.crc ∧ s.acc.frameValid = false) : (s.setAcc a).AccSideInv := by
  refine ⟨h.params_ok, h.mem, ha, ?_⟩
  cases hact : a.frameActive with
  | true =>
    obtain ⟨hsame, hv⟩ := hcrc hact
    obtain ⟨bs, hbs, hcrc⟩ := h.crc_of_open hv
    exact ⟨bs, by simpa [hcount] using hbs, fun _ => by simpa [hsame] using hcrc⟩
  | false =>
    obtain ⟨bs, hbs, -⟩ := h.frame
    exact ⟨bs, by simpa [hcount] using hbs, fun hact' => by simp [hact] at hact'⟩

theorem State.AccSideInv.storeByte {s : State} (h : s.AccSideInv) (ha : s.acc.frameActive = true) (b : Byte) :
    (s.storeByte b).AccSideInv ∧ (s.storeByte b).acc.frameActive = true := by
  obtain ⟨hroom, he⟩ | ⟨hfull, he⟩ := s.storeByte_cases b <;> rw [he]
  · refine ⟨⟨h.params_ok, ?_, h.acc.store h.params_ok ha hroom _, ?_⟩, ha⟩
    · exact h.mem.write .rx b (by simp) (by simpa [Ram.bytes] using hroom)
    · obtain ⟨bs, hbs, hcrc⟩ := h.frame
      refine ⟨bs ++ [b], ?_, fun _ => ?_⟩
      · rw [State.setAcc_acc, Acc.count_succ h.params_ok hroom]
        exact Memory.writtenBytes_snoc b hbs
      · simp [crc8_append, hcrc ha]
  · exact ⟨(h.setAcc (h.acc.overflow ha hfull) rfl fun _ => ⟨rfl, h.acc.open_of_active ha⟩).congr rfl rfl rfl, ha⟩

theorem State.AccSideInv.assembleNibble {s : State} (h : s.AccSideInv) (ha : s.acc.frameActive = true)
    (x : Nibble) : (s.assembleNibble x).AccSideInv := by
  unfold State.assembleNibble
  split
  · obtain ⟨hstored, hact⟩ := h.storeByte ha (symbolsToByte s.acc.hi x)
    exact hstored.setAcc hstored.acc.dropHigh rfl fun _ => ⟨rfl, hstored.acc.open_of_active hact⟩
  · exact h.setAcc (h.acc.holdHigh ha x) rfl fun _ => ⟨rfl, h.acc.open_of_active ha⟩

theorem Acc.Inv.setLost {p : Params} {a : Acc} (h : a.Inv p) : Acc.Inv p { a with lost := true } := { h with }

theorem State.AccSideInv.acceptNibble {s : State} (h : s.AccSideInv) (hl : s.acc.lastValid = true) (x : Nibble) :
    (s.acceptNibble x).AccSideInv := by
  obtain ⟨-, he⟩ | ⟨hv, he⟩ := s.acceptNibble_cases x <;> rw [he]
  · exact (h.setAcc h.acc.setLost rfl fun ha => ⟨rfl, h.acc.open_of_active ha⟩).congr rfl rfl rfl
  · have hact := h.setAcc (h.acc.activate hv hl) rfl fun _ => ⟨rfl, hv⟩
    refine State.AccSideInv.assembleNibble ?_ rfl x
    exact hact.congr rfl rfl rfl

theorem State.AccSideInv.emitNibble {s : State} (h : s.AccSideInv) (x : Nibble) :
    (s.emitNibble x).AccSideInv :=
  (h.setAcc (h.acc.emitted x) rfl fun ha => ⟨rfl, h.acc.open_of_active ha⟩).acceptNibble rfl x

theorem State.AccSideInv.frameClose {s : State} (h : s.AccSideInv) : s.frameClose.AccSideInv := by
  obtain ⟨-, he⟩ | ⟨ha, he⟩ := s.frameClose_cases <;> rw [he]
  · exact (h.setAcc h.acc.closed rfl fun ha => nomatch ha).congr rfl rfl rfl
  · exact h.setAcc (h.acc.cleared ha) rfl fun ha => nomatch ha

theorem State.AccSideInv.accStep {s : State} (h : s.AccSideInv) (r : SlotResult) : (s.accStep r).AccSideInv := by
  obtain ⟨hcount, hcrc, hact⟩ := s.acc.trackSlot_frame r
  have htracked : (s.setAcc ((s.acc.trackRun r).trackGap r)).AccSideInv :=
    h.setAcc (h.acc.trackSlot r) hcount fun ha => ⟨hcrc, h.acc.open_of_active (hact ▸ ha)⟩
  obtain he | ⟨x, -, he⟩ | ⟨-, -, he⟩ := s.accStep_cases r <;> rw [he]
  · exact htracked
  · exact htracked.emitNibble x
  · exact htracked.frameClose

theorem State.AccSideInv.ackFrame {s : State} (h : s.AccSideInv) : s.ackFrame.AccSideInv := by
  unfold State.ackFrame
  split
  · next hv =>
    refine ⟨h.params_ok, h.mem, h.acc.acknowledged, [], rfl, fun ha => ?_⟩
    change s.acc.frameActive = true at ha
    simp [h.acc.hold hv] at ha
  · exact h

theorem Det.Inv.reset : Det.Inv .reset := rfl

theorem Det.Inv.reconfigured {d d' : Det} (h : d.Inv) (hc : d.Reconfigured d') : d'.Inv := by
  obtain ⟨t, f, l, o, rfl⟩ := hc
  exact h

/-- MATCH is the conjunction of the two groups' after a slot (R223). -/
theorem Det.Inv.afterSlot (d : Det) : d.afterSlot.Inv := by
  simp only [Det.Inv, Det.afterSlot]

theorem State.AccSideInv.reconfigured {s : State} (h : s.AccSideInv) {a : Acc} (hc : s.acc.Reconfigured a) :
    (s.setAcc a).AccSideInv := by
  have ha := h.acc.reconfigured hc
  obtain ⟨c, m, w, g, l, -, rfl⟩ := hc
  exact h.setAcc ha rfl fun hact => ⟨rfl, h.acc.open_of_active hact⟩

/-- Every operation of the side of DET and ACC keeps that side's part of the invariant. -/
theorem RxOp.rxSideInv {i : Instr} {f : State → State} (hf : RxOp i f) {s : State} (hd : s.det.Inv)
    (h : s.AccSideInv) : (f s).det.Inv ∧ (f s).AccSideInv := by
  cases hf with
  | det f hf => exact ⟨hd.reconfigured (hf _), h.congr rfl rfl rfl⟩
  | acc f hf => exact ⟨hd, (h.reconfigured (hf _)).congr rfl rfl rfl⟩
  | push =>
    have hslot : (s.setDet s.det.afterSlot).AccSideInv := h.congr rfl rfl rfl
    refine ⟨?_, (hslot.accStep s.det.result).congr rfl rfl rfl⟩
    rw [State.replyOkay_det, State.pushSlot, State.accStep_det]
    exact Det.Inv.afterSlot s.det
  | flush => exact ⟨by simpa, h.frameClose.congr rfl rfl rfl⟩
  | ack => exact ⟨by simpa, h.ackFrame.congr rfl rfl rfl⟩
  | ackFlush => exact ⟨by simpa, h.ackFrame.frameClose.congr rfl rfl rfl⟩
  | slot r => exact ⟨by simpa, h.accStep r⟩
  | close => exact ⟨by simpa, h.frameClose⟩

theorem KeepsRx.frameBytes {s t : State} (h : KeepsRx s t) (hcount : s.acc.count.toNat ≤ 4096) (hf : s.FrameBytes) :
    t.FrameBytes := by
  obtain ⟨bs, hbs, hcrc⟩ := hf
  refine ⟨bs, ?_, by rwa [h.acc]⟩
  rw [h.acc, ← hbs]
  exact Memory.writtenBytes_congr fun a ha ha' => h.bytes a ha (by simp only [Ram.base] at ha'; omega)

/-- The invariant, by the sides of MODEM. -/
theorem State.inv_iff (s : State) : s.Inv ↔ s.EncSideInv ∧ s.det.Inv ∧ s.AccSideInv :=
  ⟨fun h => ⟨⟨h.params_ok, ⟨h.mem_wf, h.mem_ram⟩, h.enc_inv⟩, h.det_inv,
      ⟨h.params_ok, ⟨h.mem_wf, h.mem_ram⟩, h.acc_inv, h.frame_bytes⟩⟩,
    fun ⟨henc, hdet, hacc⟩ => ⟨henc.params_ok, henc.mem.1, henc.mem.2, henc.enc, hdet, hacc.acc, hacc.frame⟩⟩

/-- The invariant speaks of the parameters, the memory and the three blocks alone. -/
theorem State.Inv.congr {s t : State} (h : s.Inv) (hp : t.params = s.params) (hm : t.mem = s.mem)
    (he : t.enc = s.enc) (hd : t.det = s.det) (ha : t.acc = s.acc) : t.Inv := by
  obtain ⟨henc, hdet, hacc⟩ := s.inv_iff.1 h
  refine t.inv_iff.2 ⟨⟨hacc.congr hp hm ha |>.params_ok, hacc.congr hp hm ha |>.mem, ?_⟩, ?_, hacc.congr hp hm ha⟩
  · rw [he, hp]
    exact henc.enc
  · rwa [hd]

/-- The registers at their reset values meet the invariant with any RAM contents (R332). -/
theorem State.Inv.of_reset {s : State} (hp : s.params.ok = true) (hm : s.mem.InRams s.params) (he : s.enc = .reset)
    (hd : s.det = .reset) (ha : s.acc = .reset) : s.Inv where
  params_ok := hp
  mem_wf := hm.1
  mem_ram := hm.2
  enc_inv := he ▸ Enc.Inv.reset _
  det_inv := hd ▸ Det.Inv.reset
  acc_inv := ha ▸ Acc.Inv.reset _
  frame_bytes := ⟨[], by simp [ha, Acc.reset, Memory.writtenBytes], by simp [ha, Acc.reset]⟩

/-- Every instruction keeps the invariant and the parameters. -/
theorem exec_inv {i : Instr} {s t : State} (h : s.Inv) (hx : exec i s = .next t) : t.Inv ∧ t.params = s.params := by
  obtain ⟨henc, hdet, hacc⟩ := s.inv_iff.1 h
  cases hi : i.side with
  | quiet =>
    obtain ⟨u, hu, v, e, r, rfl⟩ := exec_quiet hi s
    obtain rfl := Host.Outcome.next.inj (hu.symm.trans hx)
    exact ⟨h.congr rfl rfl rfl rfl rfl, rfl⟩
  | enc =>
    obtain ⟨hkeeps, hp⟩ := exec_keepsRx (.inr hi) hx
    have henc' := (exec_enc hi).encSideInv henc hx
    have hcount : s.acc.count.toNat ≤ 4096 := by
      have := (Params.ok_iff _).1 h.params_ok
      have := h.acc_inv.count_le
      omega
    refine ⟨t.inv_iff.2 ⟨henc', ?_, henc'.params_ok, henc'.mem, ?_, hkeeps.frameBytes hcount hacc.frame⟩, hp⟩
    · rwa [hkeeps.det]
    · rw [hkeeps.acc, hp]
      exact hacc.acc
  | rx =>
    obtain ⟨hkeeps, hp⟩ := exec_keepsEnc (.inr hi) hx
    obtain ⟨f, hf, hexec⟩ := exec_rx hi
    obtain rfl := Host.Outcome.next.inj ((hexec s).symm.trans hx)
    obtain ⟨hdet', hacc'⟩ := hf.rxSideInv hdet hacc
    refine ⟨(f s).inv_iff.2 ⟨⟨hacc'.params_ok, hacc'.mem, ?_⟩, hdet', hacc'⟩, hp⟩
    rw [hkeeps.enc, hp]
    exact henc.enc
  | reset =>
    obtain ⟨d, rfl⟩ := eq_srst_of_side hi
    obtain rfl := Host.Outcome.next.inj ((exec_srst d s).symm.trans hx)
    exact ⟨.of_reset h.params_ok ⟨h.mem_wf, h.mem_ram⟩ rfl rfl rfl, rfl⟩

/-! ### Steps -/

theorem State.Inv.setSchedule {s : State} (h : s.Inv) (es : List Event) : (s.setSchedule es).Inv :=
  h.congr rfl rfl rfl rfl rfl

theorem State.Inv.powerOnReset {s : State} (h : s.Inv) : s.powerOnReset.Inv :=
  .of_reset h.params_ok ⟨rfl, fun _ hc => nomatch hc⟩ rfl rfl rfl

/-- Settles O58: by the event the step takes off the schedule, and for an instruction by the side it acts on. -/
theorem stepKeepsInvariant : Obligations.StepKeepsInvariant := by
  intro s t h hstep
  obtain ⟨-, -, -, hx⟩ | ⟨-, -, rfl⟩ | ⟨tx, rest, -, -, hx⟩ | ⟨tx, rest, -, -, rfl⟩ | ⟨rest, -, -, hx⟩ |
    ⟨rest, -, -, rfl⟩ | ⟨rest, -, rfl⟩ | ⟨rest, -, -, rfl⟩ | ⟨rest, -, -, rfl⟩ := step_cases hstep
  · exact exec_inv h hx
  · exact ⟨h, rfl⟩
  · exact exec_inv (s := s.setSchedule rest) (h.setSchedule rest) hx
  · exact ⟨h.congr rfl rfl rfl rfl rfl, rfl⟩
  · exact exec_inv (s := s.setSchedule rest) (h.setSchedule rest) hx
  · exact ⟨h.setSchedule rest, rfl⟩
  · exact ⟨h.congr rfl rfl rfl rfl rfl, rfl⟩
  · exact ⟨(h.setSchedule rest).powerOnReset, rfl⟩
  · exact ⟨h.setSchedule rest, rfl⟩

end Sys2Proof.Machine

/-!
PROOFS. ENC against DET and ACC (O55) and the slot counter (O56): each side's operations commute with an exchange of
the other side's registers.
-/

namespace Sys2Proof.Machine

open Sys2Proof.Config

/-! ### The operations of ACC do not read ENC -/

@[simp] theorem State.storeByte_setEnc (s : State) (e : Enc) (b : Byte) :
    (s.setEnc e).storeByte b = (s.storeByte b).setEnc e := by
  simp only [State.storeByte, apply_ite (State.setEnc · e)]
  rfl

@[simp] theorem State.assembleNibble_setEnc (s : State) (e : Enc) (x : Nibble) :
    (s.setEnc e).assembleNibble x = (s.assembleNibble x).setEnc e := by
  simp only [State.assembleNibble, State.setEnc_acc, State.storeByte_setEnc, apply_ite (State.setEnc · e)]
  rfl

@[simp] theorem State.acceptNibble_setEnc (s : State) (e : Enc) (x : Nibble) :
    (s.setEnc e).acceptNibble x = (s.acceptNibble x).setEnc e := by
  have hopen := ((s.setAcc { s.acc with frameActive := true }).irqSet .rxSym).assembleNibble_setEnc e x
  simp only [State.acceptNibble, State.setEnc_acc, apply_ite (State.setEnc · e), ← hopen]
  rfl

@[simp] theorem State.emitNibble_setEnc (s : State) (e : Enc) (x : Nibble) :
    (s.setEnc e).emitNibble x = (s.emitNibble x).setEnc e :=
  State.acceptNibble_setEnc (s.setAcc { s.acc with lastValid := true, lastNib := x }) e x

@[simp] theorem State.frameClose_setEnc (s : State) (e : Enc) :
    (s.setEnc e).frameClose = s.frameClose.setEnc e := by
  simp only [State.frameClose, apply_ite (State.setEnc · e)]
  rfl

@[simp] theorem State.ackFrame_setEnc (s : State) (e : Enc) : (s.setEnc e).ackFrame = s.ackFrame.setEnc e := by
  simp only [State.ackFrame, apply_ite (State.setEnc · e)]
  rfl

@[simp] theorem State.accStep_setEnc (s : State) (e : Enc) (r : SlotResult) :
    (s.setEnc e).accStep r = (s.accStep r).setEnc e := by
  have hslot : (s.setEnc e).setAcc ((s.acc.trackRun r).trackGap r) =
      (s.setAcc ((s.acc.trackRun r).trackGap r)).setEnc e := rfl
  cases r with
  | sym x =>
    simp only [State.accStep, State.finishSym, State.setEnc_acc, hslot, State.emitNibble_setEnc]
    exact (apply_ite (fun t : State => t.setEnc e) _ _ _).symm
  | noMatch =>
    simp only [State.accStep, State.finishNoMatch, State.setEnc_acc, hslot, State.frameClose_setEnc]
    exact (apply_ite (fun t : State => t.setEnc e) _ _ _).symm

@[simp] theorem State.pushSlot_setEnc (s : State) (e : Enc) : (s.setEnc e).pushSlot = s.pushSlot.setEnc e :=
  State.accStep_setEnc (s.setDet s.det.afterSlot) e s.det.result

/-- An operation of the side of DET and ACC does the same whatever ENC holds, and leaves it there (R222). -/
theorem RxOp.setEnc {i : Instr} {f : State → State} (hf : RxOp i f) (s : State) (e : Enc) :
    f (s.setEnc e) = (f s).setEnc e := by
  cases hf with
  | det | acc => rfl
  | push => exact congrArg State.replyOkay (s.pushSlot_setEnc e)
  | flush => exact congrArg State.replyOkay (s.frameClose_setEnc e)
  | ack => exact congrArg State.replyOkay (s.ackFrame_setEnc e)
  | ackFlush =>
    change (s.setEnc e).ackFrame.frameClose.replyOkay = _
    rw [State.ackFrame_setEnc, State.frameClose_setEnc]
    rfl
  | slot r => exact s.accStep_setEnc e r
  | close => exact s.frameClose_setEnc e

/-! ### The operations of ENC read neither DET nor ACC -/

/-- The state with other contents of DET and ACC. -/
def State.setRx (s : State) (d : Det) (c : Acc) : State := (s.setDet d).setAcc c

theorem State.lockedWrite_setRx {f : State → State} (hf : ∀ s d c, f (State.setRx s d c) = (f s).setRx d c)
    (s : State) (d : Det) (c : Acc) : (s.setRx d c).lockedWrite f = (s.lockedWrite f).setRx d c := by
  obtain ⟨hb, he⟩ | ⟨hb, he⟩ := s.lockedWrite_cases f <;>
    obtain ⟨hb', he'⟩ | ⟨hb', he'⟩ := (s.setRx d c).lockedWrite_cases f <;> rw [he, he']
  · rfl
  · exact absurd (hb.symm.trans hb') (by decide)
  · exact absurd (hb.symm.trans hb') (by decide)
  · rw [hf]
    rfl

theorem State.startRender_setRx (s : State) (k : Bool) (d : Det) (c : Acc) :
    (s.setRx d c).startRender k = (s.startRender k).setRx d c := by
  have hparams : (s.setRx d c).params = s.params := rfl
  unfold State.startRender
  change (s.setRx d c).startWith { s.enc with crcEn := k } = _
  generalize ({ s.enc with crcEn := k } : Enc) = e
  cases hc : cfgCheck s.params e with
  | none =>
    simp only [State.startWith, hparams, hc, apply_ite (State.setRx · d c)]
    rfl
  | _ =>
    simp only [State.startWith, hparams, hc]
    rfl

theorem execEngineStep_setRx {s t : State} (hx : execEngineStep s = .next t) (d : Det) (c : Acc) :
    execEngineStep (s.setRx d c) = .next (t.setRx d c) := by
  have hinput : (s.setRx d c).enc = s.enc ∧ (s.setRx d c).params = s.params ∧ (s.setRx d c).mem = s.mem ∧
      (s.setRx d c).engineSample = s.engineSample ∧ (s.setRx d c).drawsAfterSample = s.drawsAfterSample :=
    ⟨rfl, rfl, rfl, rfl, rfl⟩
  obtain ⟨henc, hparams, hmem, hsample, hdraws⟩ := hinput
  unfold execEngineStep at hx ⊢
  rw [henc, hparams, hmem, hsample, hdraws]
  split at hx
  · next hb =>
    rw [if_pos hb]
    dsimp only at hx ⊢
    split at hx
    · cases hx
    · next hr =>
      rw [if_neg hr]
      obtain rfl := Host.Outcome.next.inj hx
      simp only [apply_ite (State.setRx · d c)]
      rfl
  · next hb =>
    rw [if_neg hb]
    obtain rfl := Host.Outcome.next.inj hx
    rfl

theorem ramWrite_setRx {r : Ram} {w : Width} {j : Nat} {v : Word} {s t : State} (hx : ramWrite r w j v s = .next t)
    (d : Det) (c : Acc) : ramWrite r w j v (s.setRx d c) = .next (t.setRx d c) := by
  have hlocked := State.lockedWrite_setRx (f := fun t => t.setMem (t.mem.writeLE (r.base + j) v w.bytes))
    (fun _ _ _ => rfl) s d c
  unfold ramWrite at hx ⊢
  change (if ramAccessOk s.params r w j then _ else _) = _
  rw [hlocked]
  split at hx
  · next hok =>
    obtain rfl := Host.Outcome.next.inj hx
    exact if_pos hok
  · next hok =>
    obtain rfl := Host.Outcome.next.inj hx
    exact if_neg hok

/-- An operation of ENC's side does the same whatever DET and ACC hold, and leaves them there (R340). -/
theorem EncOp.setRx {g : State → StepResult} (hg : EncOp g) {s t : State} (hx : g s = .next t) (d : Det) (c : Acc) :
    g (s.setRx d c) = .next (t.setRx d c) := by
  cases hg with
  | config f hf =>
    obtain rfl := Host.Outcome.next.inj hx
    exact congrArg _ (State.lockedWrite_setRx (fun _ _ _ => rfl) s d c)
  | start k =>
    obtain rfl := Host.Outcome.next.inj hx
    exact congrArg _ (State.lockedWrite_setRx (fun u d c => u.startRender_setRx k d c) s d c)
  | clearWerr k =>
    obtain rfl := Host.Outcome.next.inj hx
    rfl
  | ram r w j v hr => exact ramWrite_setRx hx d c
  | engine => exact execEngineStep_setRx hx d c

/-! ### Independence -/

/-- DET, ACC and the RX bytes come out the same whatever ENC holds. -/
theorem exec_rx_independent {i : Instr} {s t u : State} (hx : exec i s = .next t) (e : Enc)
    (hu : exec i (s.setEnc e) = .next u) : KeepsRx t u := by
  have of_unread (hi : i.side = .quiet ∨ i.side = .enc) : KeepsRx t u := by
    obtain ⟨⟨det, acc, bytes⟩, -⟩ := exec_keepsRx hi hx
    obtain ⟨⟨det', acc', bytes'⟩, -⟩ := exec_keepsRx hi hu
    exact ⟨det'.trans det.symm, acc'.trans acc.symm, fun a ha ha' => (bytes' a ha ha').trans (bytes a ha ha').symm⟩
  cases hi : i.side with
  | quiet => exact of_unread (.inl hi)
  | enc => exact of_unread (.inr hi)
  | rx =>
    obtain ⟨f, hf, hexec⟩ := exec_rx hi
    obtain rfl := Host.Outcome.next.inj ((hexec s).symm.trans hx)
    obtain rfl := Host.Outcome.next.inj ((hexec (s.setEnc e)).symm.trans hu)
    rw [hf.setEnc]
    exact ⟨rfl, rfl, fun _ _ _ => rfl⟩
  | reset =>
    obtain ⟨d, rfl⟩ := eq_srst_of_side hi
    obtain rfl := Host.Outcome.next.inj ((exec_srst d s).symm.trans hx)
    obtain rfl := Host.Outcome.next.inj ((exec_srst d (s.setEnc e)).symm.trans hu)
    exact ⟨rfl, rfl, fun _ _ _ => rfl⟩

/-- ENC and the TX and PCM bytes come out the same whatever DET and ACC hold. -/
theorem exec_enc_independent {i : Instr} {s t : State} (hx : exec i s = .next t) (d : Det) (c : Acc) :
    ∃ u, exec i (s.setRx d c) = .next u ∧ KeepsEnc t u := by
  have of_unread (hi : i.side = .quiet ∨ i.side = .rx) (hnext : ∃ u, exec i (s.setRx d c) = .next u) :
      ∃ u, exec i (s.setRx d c) = .next u ∧ KeepsEnc t u := by
    obtain ⟨u, hu⟩ := hnext
    obtain ⟨⟨enc, bytes⟩, -⟩ := exec_keepsEnc hi hx
    obtain ⟨⟨enc', bytes'⟩, -⟩ := exec_keepsEnc hi hu
    exact ⟨u, hu, enc'.trans enc.symm, fun a ha => (bytes' a ha).trans (bytes a ha).symm⟩
  cases hi : i.side with
  | quiet => exact of_unread (.inl hi) ((exec_quiet hi _).imp fun _ h => h.1)
  | rx => exact of_unread (.inr hi) (exec_rx_next hi _)
  | enc => exact ⟨_, (exec_enc hi).setRx hx d c, rfl, fun _ _ => rfl⟩
  | reset =>
    obtain ⟨w, rfl⟩ := eq_srst_of_side hi
    obtain rfl := Host.Outcome.next.inj ((exec_srst w s).symm.trans hx)
    exact ⟨_, exec_srst w _, rfl, fun _ _ => rfl⟩

/-- Settles O55: the side of the instruction says which blocks it changes, and each side's operations commute with
an exchange of the other's registers. -/
theorem encoderSharesNoState : Obligations.EncoderSharesNoState := by
  intro i s t hx
  refine ⟨?_, fun e u hu => ?_, fun d c => ?_⟩
  · cases hi : i.side with
    | quiet => exact .inl (exec_keepsEnc (.inl hi) hx).1.enc
    | rx => exact .inl (exec_keepsEnc (.inr hi) hx).1.enc
    | enc =>
      obtain ⟨⟨hdet, hacc, -⟩, -⟩ := exec_keepsRx (.inr hi) hx
      exact .inr (.inl ⟨hdet, hacc⟩)
    | reset => exact .inr (.inr (eq_srst_of_side hi))
  · obtain ⟨hdet, hacc, hbytes⟩ := exec_rx_independent hx e hu
    exact ⟨hdet, hacc, hbytes⟩
  · obtain ⟨u, hu, henc, hbytes⟩ := exec_enc_independent hx d c
    exact ⟨u, hu, henc, hbytes⟩

/-! ### DET_SLOTS -/

/-- Of the operations on the side of DET and ACC, DET_PUSH alone changes DET_SLOTS. -/
theorem RxOp.slots {i : Instr} {f : State → State} (hf : RxOp i f) (hpush : ∀ d, i ≠ .detPush d) (s : State) :
    (f s).det.slots = s.det.slots := by
  cases hf with
  | det f hf =>
    obtain ⟨_, _, _, _, he⟩ := hf s.det
    rw [State.replyOkay_det, State.setDet_det, he]
  | acc => rfl
  | push d => exact absurd rfl (hpush d)
  | flush | ack | ackFlush | slot | close => simp

/-- Settles O56: the push counts its slot, the soft reset clears the counter, and every other instruction keeps it. -/
theorem slotCounterCountsPushes : Obligations.SlotCounterCountsPushes := by
  intro i s t hx
  split
  · next d =>
    obtain rfl := Host.Outcome.next.inj hx
    simp [State.pushSlot, Det.afterSlot]
  · next d =>
    obtain rfl := Host.Outcome.next.inj ((exec_srst d s).symm.trans hx)
    rfl
  · next hpush hsrst =>
    cases hi : i.side with
    | quiet => rw [(exec_keepsRx (.inl hi) hx).1.det]
    | enc => rw [(exec_keepsRx (.inr hi) hx).1.det]
    | rx =>
      obtain ⟨f, hf, hexec⟩ := exec_rx hi
      obtain rfl := Host.Outcome.next.inj ((hexec s).symm.trans hx)
      exact hf.slots hpush s
    | reset =>
      obtain ⟨d, rfl⟩ := eq_srst_of_side hi
      exact absurd rfl (hsrst d)

end Sys2Proof.Machine

/-!
PROOFS. What the registers read as (O12 to O15) and the interrupt line (O53).
-/

namespace Sys2Proof.Machine

open Sys2Proof.Config

/-! ### The words registers read as -/

/-- A register read answers its word. -/
theorem readsWord_of_readRegister {i : Instr} {s : State} {p : Word → Prop} (d : Word)
    (hx : exec i s = readRegister d s) (hp : p d) : ReadsWord i s p := ⟨d, hx, hp⟩

/-- Two adjacent fields of a word, the upper one first (R16): `++`, but with the widths of the fields in sight, which
a `Word` hides from `simp`. -/
def adjacent {v w : Nat} (x : BitVec v) (y : BitVec w) : BitVec (v + w) := x ++ y

section adjacent

variable {v w : Nat} (x : BitVec v) (y : BitVec w)

@[simp] theorem adjacent_getLsbD (i : Nat) :
    (adjacent x y).getLsbD i = if i < w then y.getLsbD i else x.getLsbD (i - w) := by
  simp [adjacent, BitVec.getLsbD_append]

@[simp] theorem adjacent_extract_low {i n : Nat} (h : i + n ≤ w) :
    (adjacent x y).extractLsb' i n = y.extractLsb' i n :=
  BitVec.extractLsb'_append_eq_of_add_le h

@[simp] theorem adjacent_extract_high {i n : Nat} (h : w ≤ i) :
    (adjacent x y).extractLsb' i n = x.extractLsb' (i - w) n :=
  BitVec.extractLsb'_append_eq_of_le h

/-- A field with zeros above it reads as its own number. -/
@[simp] theorem adjacent_zero_toNat : (adjacent 0#v y).toNat = y.toNat := by
  simp [adjacent, BitVec.toNat_append]

end adjacent

theorem bit_getLsbD_zero (b : Bool) : (bit b).getLsbD 0 = b := by
  cases b <;> rfl

/-! The words as adjacent fields. -/

theorem Enc.statusWord_eq (e : Enc) : e.statusWord =
    adjacent (adjacent (adjacent (adjacent (adjacent 0#25 e.cfgCause.code) (bit e.werr)) (bit e.errBuf))
      (bit e.errCfg)) (bit e.busy) := rfl

theorem Det.resultWord_eq (d : Det) : d.resultWord =
    adjacent (adjacent (adjacent (adjacent 0#21 (bit d.matchH)) (bit d.matchL)) (bit d.matched))
      (adjacent 0#4 d.cand) := rfl

theorem Det.domWord_eq (d : Det) : d.domWord = adjacent d.domH d.domL := rfl

theorem Acc.cfgWord_eq (a : Acc) : a.cfgWord =
    adjacent (adjacent (adjacent (adjacent a.gapSlots a.slotsPerWord) 0#6) (bit a.mode.isChange)) (bit a.crcEn) := rfl

theorem Acc.statusWord_eq (a : Acc) : a.statusWord =
    adjacent (adjacent (adjacent (adjacent (adjacent (adjacent 0#26 (bit a.lost)) (bit a.ovf)) (bit a.frameActive))
      (bit a.nibPhase)) (bit (a.frameValid && a.crcOk))) (bit a.frameValid) := rfl

theorem Acc.debugWord_eq (a : Acc) : a.debugWord =
    adjacent (adjacent (adjacent (adjacent (adjacent (adjacent (adjacent a.crc 0#4) a.hi) 0#3) (bit a.lastValid))
      a.lastNib) (adjacent 0#3 (bit a.runValid))) a.runNib := rfl

theorem Acc.runcntWord_eq (a : Acc) : a.runcntWord = adjacent a.gapCnt a.runCnt := rfl

/-! ### Settling the reads -/

/-- A number below 2^n is what an n-bit field with zeros above it reads as. -/
theorem adjacent_ofNat_toNat {v w k : Nat} (h : k < 2 ^ w) : (adjacent 0#v (BitVec.ofNat w k)).toNat = k := by
  rw [adjacent_zero_toNat, BitVec.toNat_ofNat, Nat.mod_eq_of_lt h]

/-- Settles O12: the depths fit their fields by R11 to R13. -/
theorem systemRegistersRead : Obligations.SystemRegistersRead := by
  intro s hp
  have hdepths := (Params.ok_iff _).1 hp
  refine ⟨readsWord_of_readRegister _ rfl rfl, readsWord_of_readRegister _ rfl rfl,
    readsWord_of_readRegister _ rfl (adjacent_zero_toNat s.irqStatus),
    readsWord_of_readRegister _ rfl (adjacent_zero_toNat s.irqEnable),
    readsWord_of_readRegister _ rfl (adjacent_ofNat_toNat ?_),
    readsWord_of_readRegister _ rfl (adjacent_ofNat_toNat ?_),
    readsWord_of_readRegister _ rfl (adjacent_ofNat_toNat ?_),
    fun r => readsWord_of_readRegister _ rfl rfl⟩ <;> omega

theorem Enc.ctrlWord_toNat (e : Enc) : e.ctrlWord.toNat = if e.crcEn then 2 else 0 := by
  unfold Enc.ctrlWord
  cases e.crcEn <;> rfl

/-- ENC_STATUS, bit by bit (R39). -/
theorem Enc.statusWord_fields (e : Enc) :
    e.statusWord.getLsbD 0 = e.busy ∧ e.statusWord.getLsbD 1 = e.errCfg ∧ e.statusWord.getLsbD 2 = e.errBuf ∧
    e.statusWord.getLsbD 3 = e.werr ∧ e.statusWord.extractLsb' 4 3 = e.cfgCause.code ∧
    e.statusWord.extractLsb' 7 25 = 0 := by
  simp [Enc.statusWord_eq, bit_getLsbD_zero, -BitVec.getLsbD_eq_getElem]

/-- ENC_NSAMP: the signal length of R176, saturated (R44). -/
theorem Enc.nsampWord_toNat (e : Enc) : e.nsampWord.toNat =
    min (e.spw.toNat * 2 * (e.len.toNat + if e.crcEn then 1 else 0)) 0xFFFFFFFF := by
  have hlen : e.nsamp = e.spw.toNat * 2 * (e.len.toNat + if e.crcEn then 1 else 0) := by
    cases hcrc : e.crcEn <;> simp [Enc.nsamp, Enc.wordCount, hcrc, Nat.mul_assoc]
  rw [Enc.nsampWord, hlen, BitVec.toNat_ofNat, Nat.mod_eq_of_lt]
  omega

/-- Settles O13: ENC_STATUS by its fields, with the code of each cause. -/
theorem encoderRegistersRead : Obligations.EncoderRegistersRead := by
  intro s
  refine ⟨readsWord_of_readRegister _ rfl s.enc.ctrlWord_toNat, readsWord_of_readRegister _ rfl ?_,
    readsWord_of_readRegister _ rfl (adjacent_zero_toNat s.enc.spw),
    readsWord_of_readRegister _ rfl (adjacent_zero_toNat s.enc.amp),
    readsWord_of_readRegister _ rfl rfl,
    readsWord_of_readRegister _ rfl (adjacent_zero_toNat s.enc.len),
    readsWord_of_readRegister _ rfl s.enc.nsampWord_toNat,
    readsWord_of_readRegister _ rfl rfl,
    fun k => readsWord_of_readRegister _ rfl rfl⟩
  obtain ⟨hbusy, herrCfg, herrBuf, hwerr, hcause, hzero⟩ := s.enc.statusWord_fields
  refine ⟨hbusy, herrCfg, herrBuf, hwerr, ?_, hzero⟩
  rw [hcause]
  cases s.enc.cfgCause <;> rfl

/-- DET_RESULT, bit by bit (R50). -/
theorem Det.resultWord_fields (d : Det) :
    d.resultWord.extractLsb' 0 4 = d.cand ∧ d.resultWord.extractLsb' 4 4 = 0 ∧
    d.resultWord.getLsbD 8 = d.matched ∧ d.resultWord.getLsbD 9 = d.matchL ∧ d.resultWord.getLsbD 10 = d.matchH ∧
    d.resultWord.extractLsb' 11 21 = 0 := by
  simp [Det.resultWord_eq, bit_getLsbD_zero, -BitVec.getLsbD_eq_getElem]

/-- DET_DOM, bit by bit (R51). -/
theorem Det.domWord_fields (d : Det) : d.domWord.extractLsb' 0 16 = d.domL ∧ d.domWord.extractLsb' 16 16 = d.domH := by
  simp [Det.domWord_eq]

/-- Settles O14: a signed field reads as its 16-bit pattern, with zeros above it. -/
theorem detectorRegistersRead : Obligations.DetectorRegistersRead := fun s =>
  ⟨readsWord_of_readRegister _ rfl rfl,
    readsWord_of_readRegister _ rfl (adjacent_zero_toNat s.det.thresh),
    readsWord_of_readRegister _ rfl (adjacent_zero_toNat s.det.floor),
    readsWord_of_readRegister _ rfl s.det.resultWord_fields,
    readsWord_of_readRegister _ rfl s.det.domWord_fields,
    readsWord_of_readRegister _ rfl rfl,
    fun i => readsWord_of_readRegister _ rfl (adjacent_zero_toNat (s.det.level.get i)),
    fun i => readsWord_of_readRegister _ rfl (adjacent_zero_toNat (s.det.offset.get i))⟩

theorem Debounce.isChange_iff (m : Debounce) : m.isChange = true ↔ m = .change := by
  cases m <;> simp [Debounce.isChange]

/-- RX_CFG, bit by bit (R56). -/
theorem Acc.cfgWord_fields (a : Acc) :
    a.cfgWord.getLsbD 0 = a.crcEn ∧ (a.cfgWord.getLsbD 1 = true ↔ a.mode = .change) ∧
    a.cfgWord.extractLsb' 2 6 = 0 ∧ a.cfgWord.extractLsb' 8 8 = a.slotsPerWord ∧
    a.cfgWord.extractLsb' 16 16 = a.gapSlots := by
  simp [Acc.cfgWord_eq, bit_getLsbD_zero, Debounce.isChange_iff, -BitVec.getLsbD_eq_getElem]

/-- RX_STATUS, bit by bit (R57). -/
theorem Acc.statusWord_fields (a : Acc) :
    a.statusWord.getLsbD 0 = a.frameValid ∧ a.statusWord.getLsbD 1 = (a.frameValid && a.crcOk) ∧
    a.statusWord.getLsbD 2 = a.nibPhase ∧ a.statusWord.getLsbD 3 = a.frameActive ∧
    a.statusWord.getLsbD 4 = a.ovf ∧ a.statusWord.getLsbD 5 = a.lost ∧ a.statusWord.extractLsb' 6 26 = 0 := by
  simp [Acc.statusWord_eq, bit_getLsbD_zero, -BitVec.getLsbD_eq_getElem]

/-- RX_FRAME_LEN reads 0 while no closed frame waits (R59). -/
theorem Acc.frameLenWord_toNat (a : Acc) :
    a.frameLenWord.toNat = if a.frameValid then a.frameLen.toNat else 0 := by
  unfold Acc.frameLenWord
  split
  · exact adjacent_zero_toNat a.frameLen
  · rfl

/-- RX_DEBUG, bit by bit (R60). -/
theorem Acc.debugWord_fields (a : Acc) :
    a.debugWord.extractLsb' 0 4 = a.runNib ∧ a.debugWord.getLsbD 4 = a.runValid ∧
    a.debugWord.extractLsb' 5 3 = 0 ∧ a.debugWord.extractLsb' 8 4 = a.lastNib ∧
    a.debugWord.getLsbD 12 = a.lastValid ∧ a.debugWord.extractLsb' 13 3 = 0 ∧
    a.debugWord.extractLsb' 16 4 = a.hi ∧ a.debugWord.extractLsb' 20 4 = 0 ∧ a.debugWord.extractLsb' 24 8 = a.crc := by
  simp [Acc.debugWord_eq, bit_getLsbD_zero, -BitVec.getLsbD_eq_getElem]

/-- RX_RUNCNT, bit by bit (R61). -/
theorem Acc.runcntWord_fields (a : Acc) :
    a.runcntWord.extractLsb' 0 16 = a.runCnt ∧ a.runcntWord.extractLsb' 16 16 = a.gapCnt := by
  simp [Acc.runcntWord_eq]

/-- Settles O15: every word by its fields. -/
theorem accumulatorRegistersRead : Obligations.AccumulatorRegistersRead := fun s =>
  ⟨readsWord_of_readRegister _ rfl rfl,
    readsWord_of_readRegister _ rfl s.acc.cfgWord_fields,
    readsWord_of_readRegister _ rfl s.acc.statusWord_fields,
    readsWord_of_readRegister _ rfl (adjacent_zero_toNat s.acc.count),
    readsWord_of_readRegister _ rfl s.acc.frameLenWord_toNat,
    readsWord_of_readRegister _ rfl s.acc.debugWord_fields,
    readsWord_of_readRegister _ rfl s.acc.runcntWord_fields⟩

/-- `irq` is the OR over the sources that are pending and enabled (R68). -/
theorem State.irq_iff (s : State) :
    s.irq = true ↔ ∃ b, b < 5 ∧ s.irqStatus.getLsbD b = true ∧ s.irqEnable.getLsbD b = true := by
  rw [State.irq, bne_iff_ne]
  constructor
  · intro hne
    by_contra hnone
    refine hne (BitVec.eq_of_getLsbD_eq fun b hb => ?_)
    rw [BitVec.getLsbD_and, BitVec.ofNat_eq_ofNat, BitVec.getLsbD_zero]
    by_contra hset
    exact hnone ⟨b, hb, by simpa using hset⟩
  · rintro ⟨b, -, hpending, henabled⟩ hzero
    have hset : (s.irqStatus &&& s.irqEnable).getLsbD b = true := by
      simp only [BitVec.getLsbD_and, hpending, henabled, Bool.and_self]
    simp [hzero] at hset

/-- Settles O53: by `State.irq_iff`, and no source is pending after reset. -/
theorem irqIsPendingAndEnabled : Obligations.IrqIsPendingAndEnabled := ⟨State.irq_iff, by decide⟩

end Sys2Proof.Machine

/-!
PROOFS. What a render in progress reads (O35): while BUSY, no operation changes ENC's configuration or a TX byte.
-/

namespace Sys2Proof.Machine

open Sys2Proof.Config

/-- The registers and the TX bytes a render reads are kept (R109, R175, R181). -/
structure KeepsRenderInputs (s t : State) : Prop where
  spw : t.enc.spw = s.enc.spw
  amp : t.enc.amp = s.enc.amp
  startOff : t.enc.startOff = s.enc.startOff
  len : t.enc.len = s.enc.len
  crcEn : t.enc.crcEn = s.enc.crcEn
  inc : t.enc.inc = s.enc.inc
  bytes : ∀ a, 0x1000 ≤ a → a < 0x2000 → t.mem.lookup a = s.mem.lookup a

theorem KeepsRenderInputs.refl (s : State) : KeepsRenderInputs s s :=
  ⟨rfl, rfl, rfl, rfl, rfl, rfl, fun _ _ _ => rfl⟩

/-- A state with the same ENC but for WERR, and the same memory, has the same inputs of a render. -/
theorem KeepsRenderInputs.of_werr {s t : State} {b : Bool} (he : t.enc = { s.enc with werr := b })
    (hm : t.mem = s.mem) : KeepsRenderInputs s t := by
  constructor <;> simp [he, hm]

theorem KeepsEnc.keepsRenderInputs {s t : State} (h : KeepsEnc s t) : KeepsRenderInputs s t := by
  obtain ⟨henc, hbytes⟩ := h
  constructor
  case bytes => exact fun a ha ha' => hbytes a (.inl ⟨ha, ha'⟩)
  all_goals rw [henc]

/-- A locked write of a busy encoder sets WERR alone, whatever its effect would be (R340). -/
theorem State.lockedWrite_keepsRenderInputs {s : State} (hb : s.enc.busy = true) (f : State → State) :
    KeepsRenderInputs s (s.lockedWrite f) := by
  obtain ⟨-, he⟩ | ⟨hidle, -⟩ := s.lockedWrite_cases f
  · rw [he]
    exact .of_werr rfl rfl
  · simp [hb] at hidle

/-- A sample is written above the TX window, and ENC_POS and BUSY alone change in ENC (R182). -/
theorem execEngineStep_keepsRenderInputs {s t : State} (hx : execEngineStep s = .next t) :
    KeepsRenderInputs s t := by
  obtain ⟨-, rfl⟩ | ⟨-, -, he⟩ := execEngineStep_cases hx
  · exact .refl _
  · have htx : ∀ a, a < 0x2000 → (s.mem.writeLE (pcmAddr (s.enc.startOff.toNat + s.enc.pos.toNat))
        (s.engineSample.setWidth 32) 2).lookup a = s.mem.lookup a := fun a ha =>
      Memory.lookup_writeLE_outside _ _ _ _ _ (.inl (by simp only [pcmAddr, Ram.base]; omega))
    subst he
    split
    · exact ⟨rfl, rfl, rfl, rfl, rfl, rfl, fun a _ ha => htx a ha⟩
    · exact ⟨rfl, rfl, rfl, rfl, rfl, rfl, fun a _ ha => htx a ha⟩

/-- No operation of ENC's side changes what a render in progress reads (R340). -/
theorem EncOp.keepsRenderInputs {g : State → StepResult} (hg : EncOp g) {s t : State} (hb : s.enc.busy = true)
    (hx : g s = .next t) : KeepsRenderInputs s t := by
  cases hg with
  | config f hf =>
    obtain rfl := Host.Outcome.next.inj hx
    exact s.lockedWrite_keepsRenderInputs hb _
  | start c =>
    obtain rfl := Host.Outcome.next.inj hx
    exact s.lockedWrite_keepsRenderInputs hb _
  | clearWerr k =>
    obtain rfl := Host.Outcome.next.inj hx
    exact .of_werr rfl rfl
  | ram r w j v hr =>
    obtain ⟨-, he⟩ | ⟨-, -, he⟩ | ⟨-, hidle, -⟩ := ramWrite_cases r w j v s
    · obtain rfl := Host.Outcome.next.inj (he.symm.trans hx)
      exact .of_werr rfl rfl
    · obtain rfl := Host.Outcome.next.inj (he.symm.trans hx)
      exact .of_werr rfl rfl
    · simp [hb] at hidle
  | engine => exact execEngineStep_keepsRenderInputs hx

/-- No instruction that leaves the render under way changes what it reads: the soft reset alone does, and it ends
the render (R109, R331). -/
theorem exec_keepsRenderInputs {i : Instr} {s t : State} (hx : exec i s = .next t) (hs : s.enc.busy = true)
    (ht : t.enc.busy = true) : KeepsRenderInputs s t := by
  cases hi : i.side with
  | quiet => exact (exec_keepsEnc (.inl hi) hx).1.keepsRenderInputs
  | rx => exact (exec_keepsEnc (.inr hi) hx).1.keepsRenderInputs
  | enc => exact (exec_enc hi).keepsRenderInputs hs hx
  | reset =>
    obtain ⟨d, rfl⟩ := eq_srst_of_side hi
    obtain rfl := Host.Outcome.next.inj ((exec_srst d s).symm.trans hx)
    cases ht

/-- No step that leaves the render under way changes what it reads: of the events, the deassertion of `rst` alone
does, and it ends the render (R330). -/
theorem step_keepsRenderInputs {s t : State} (hstep : step s = .next t) (hs : s.enc.busy = true)
    (ht : t.enc.busy = true) : KeepsRenderInputs s t := by
  have of_exec {i : Instr} (rest : List Event) (hx : exec i (s.setSchedule rest) = .next t) :
      KeepsRenderInputs s t := by
    have h := exec_keepsRenderInputs hx hs ht
    exact { h with }
  obtain ⟨-, -, -, hx⟩ | ⟨-, -, rfl⟩ | ⟨tx, rest, -, -, hx⟩ | ⟨tx, rest, -, -, rfl⟩ | ⟨rest, -, -, hx⟩ |
    ⟨rest, -, -, rfl⟩ | ⟨rest, -, rfl⟩ | ⟨rest, -, -, rfl⟩ | ⟨rest, -, -, rfl⟩ := step_cases hstep
  · exact exec_keepsRenderInputs hx hs ht
  · exact .refl _
  · exact of_exec rest hx
  · exact .of_werr rfl rfl
  · exact of_exec rest hx
  · exact .of_werr rfl rfl
  · exact .of_werr rfl rfl
  · cases ht
  · exact .of_werr rfl rfl

/-- Settles O35. The ranges of the depths are not needed: BUSY locks every TX write, and a PCM sample lies above the TX
window at any depth. -/
theorem renderInputsFixedWhileBusy : Obligations.RenderInputsFixedWhileBusy := by
  intro s t _ hstep hs ht
  obtain ⟨spw, amp, startOff, len, crcEn, inc, bytes⟩ := step_keepsRenderInputs hstep hs ht
  exact ⟨spw, amp, startOff, len, crcEn, inc, bytes⟩

end Sys2Proof.Machine

/-!
PROOFS. PCM RAM: two samples in a word (O25), and a sample drawn for an unwritten payload (O28).
-/

namespace Sys2Proof.Machine

open Sys2Proof.Config

/-! ### Samples of PCM RAM -/

/-- Two bytes in a row of a little-endian read, the upper one first (R97). -/
theorem State.readLE_half (s : State) (a n k : Nat) (hn : n ≤ 4) (hk : k + 2 ≤ n) :
    (s.readLE a n).extractLsb' (8 * k) 16 = s.readByte (a + k + 1) ++ s.readByte (a + k) := by
  rw [add_assoc, ← s.readLE_byte a n k hn (by omega), ← s.readLE_byte a n (k + 1) hn (by omega)]
  exact (BitVec.extractLsb'_append_extractLsb'_eq_extractLsb' (Nat.mul_succ 8 k)).symm

/-- The accesses R96 and R99 allow. -/
theorem ramAccessOk_iff {p : Params} {r : Ram} {w : Width} {i : Nat} :
    ramAccessOk p r w i = true ↔ i % w.bytes = 0 ∧ i + w.bytes ≤ r.bytes p := by
  simp [ramAccessOk]

/-- Settles O25: the word at sample 2m holds the bytes of that sample and of the next. -/
theorem pcmWordHoldsTwoSamples : Obligations.PcmWordHoldsTwoSamples := by
  intro s j m hj hdepth
  have hok : ramAccessOk s.params .pcm .w32 j.toNat = true := by
    rw [ramAccessOk_iff]
    simp only [Width.bytes, Ram.bytes]
    omega
  have haddr : Ram.pcm.base + j.toNat = 0x100000 + 2 * (2 * m) := by
    simp only [Ram.base]
    omega
  refine ⟨s.readLE (Ram.pcm.base + j.toNat) 4, if_pos hok, ?_⟩
  rw [haddr]
  exact ⟨s.readLE_half _ 4 0 (by omega) (by omega), s.readLE_half _ 4 2 (by omega) (by omega)⟩

theorem State.readByte_of_lookup {s : State} {a : Nat} {b : Byte} (h : s.mem.lookup a = some b) :
    s.readByte a = b := by
  simp only [State.readByte, h]

/-- A sample written low byte first is the sample of PCM RAM there (R95, R182). -/
theorem pcmSample_writeLE (s : State) (i : Nat) (v : Half) :
    State.pcmSample { s with mem := s.mem.writeLE (pcmAddr i) (v.setWidth 32) 2 } i = v := by
  have hbyte (k : Nat) (hk : k < 2) :
      State.readByte { s with mem := s.mem.writeLE (pcmAddr i) (v.setWidth 32) 2 } (pcmAddr i + k) =
        v.extractLsb' (8 * k) 8 := by
    refine State.readByte_of_lookup ((s.mem.lookup_writeLE_byte _ _ 2 k hk).trans ?_)
    rw [BitVec.setWidth_ushiftRight_eq_extractLsb, BitVec.extractLsb'_setWidth_of_le (by omega)]
  calc State.pcmSample _ i
      _ = v.extractLsb' 8 8 ++ v.extractLsb' 0 8 := congrArg₂ (· ++ ·) (hbyte 1 (by decide)) (hbyte 0 (by decide))
      _ = v.extractLsb' 0 16 := BitVec.extractLsb'_append_extractLsb'_eq_extractLsb' rfl
      _ = v := BitVec.extractLsb'_eq_self

/-! ### One sample of a render -/

/-- ENGINE_STEP of a busy engine: the sample at its place in PCM RAM, counted, and the last one ends the render
(R182). -/
theorem execEngineStep_sample {s : State} (hb : s.enc.busy = true)
    (hi : s.enc.startOff.toNat + s.enc.pos.toNat < s.params.pcmDepth) :
    let last := (s.enc.pos + 1).toNat = s.enc.spw.toNat * 2 * (s.enc.len.toNat + if s.enc.crcEn then 1 else 0)
    execEngineStep s = .next { s with
      mem := s.mem.writeLE (pcmAddr (s.enc.startOff.toNat + s.enc.pos.toNat)) (s.engineSample.setWidth 32) 2
      draws := s.drawsAfterSample
      enc := { s.enc with pos := s.enc.pos + 1, busy := !decide last }
      irqStatus := if last then s.irqStatus ||| 0b00001 else s.irqStatus } := by
  intro last
  have hlast : (s.enc.pos + 1).toNat = s.enc.nsamp ↔ last := by
    simp only [Enc.nsamp, Enc.wordCount, Bool.toNat, mul_assoc, last]
    cases s.enc.crcEn <;> rfl
  have henc : s.enc.afterSample = { s.enc with pos := s.enc.pos + 1, busy := !decide last } := by
    simp only [Enc.afterSample, hlast]
  obtain ⟨t, ht⟩ := execEngineStep_next fun _ => hi
  obtain ⟨hidle, -⟩ | ⟨-, -, he⟩ := execEngineStep_cases ht
  · simp [hb] at hidle
  · rw [ht, he, henc]
    by_cases h : last
    · simp only [h]
      rfl
    · simp only [h]
      rfl

/-- No byte string has been written from an address on when one of its bytes has not. -/
theorem Memory.writtenBytes_eq_none {m : Memory} {a n k : Nat} (hk : k < n) (h : m.lookup (a + k) = none) :
    m.writtenBytes a n = none := by
  induction n generalizing a k with
  | zero => omega
  | succ n ih =>
    cases k with
    | zero =>
      rw [Nat.add_zero] at h
      rw [Memory.writtenBytes, h]
    | succ k =>
      have hrest : m.writtenBytes (a + 1) n = none := ih (k := k) (by omega) (by rwa [add_right_comm, add_assoc])
      rw [Memory.writtenBytes, hrest]
      cases m.lookup a <;> rfl

/-- A frame byte computed from an unwritten TX byte has no value: a payload byte from itself, the trailer from every
payload byte (R103, R175). -/
theorem State.frameByte_eq_none {s : State} {b : Nat}
    (h : (b < s.enc.len.toNat ∧ s.mem.lookup (0x1000 + b) = none) ∨
      (s.enc.len.toNat ≤ b ∧ ∃ k, k < s.enc.len.toNat ∧ s.mem.lookup (0x1000 + k) = none)) :
    s.frameByte b = none := by
  obtain ⟨hb, hnone⟩ | ⟨hb, k, hk, hnone⟩ := h
  · exact (if_pos hb).trans hnone
  · have htrailer : s.mem.writtenBytes Ram.tx.base s.enc.len.toNat = none := Memory.writtenBytes_eq_none hk hnone
    rw [State.frameByte, if_neg (by omega), htrailer, Option.map_none]

/-- A sample with no value is a draw (R103, U2). -/
theorem State.engineSample_of_unwritten {s : State}
    (h : s.frameByte (s.enc.pos.toNat / s.enc.spw.toNat / 2) = none) :
    s.engineSample = drawnSample s.draws ∧ s.drawsAfterSample = s.draws + 1 := by
  have hnone : s.renderSample s.enc.pos.toNat = none := by
    simp only [State.renderSample, State.wordSymbol, h, Option.map_none]
  simp only [State.engineSample, State.drawsAfterSample, hnone, and_self]

/-- Settles O28: the sample has no value of its own, so ENGINE_STEP writes the draw. -/
theorem engineStepDrawsSample : Obligations.EngineStepDrawsSample := by
  intro s hb hi hunwritten j last
  obtain ⟨hsample, hdraws⟩ := State.engineSample_of_unwritten (State.frameByte_eq_none hunwritten)
  have hstep := execEngineStep_sample hb hi
  rw [hsample, hdraws] at hstep
  exact ⟨_, hstep, pcmSample_writeLE s _ _, fun a ha => Memory.lookup_writeLE_outside _ _ _ _ _ ha⟩

end Sys2Proof.Machine

/-!
PROOFS. The decoder: the row of the opcode map it takes, and that every instruction it answers is well formed.
-/

namespace Sys2Proof

/-! ### The row the decoder takes -/

theorem firstRow_eq_find? (t : Txn) (rows : List OpcodeRow) : firstRow t rows = rows.find? (·.hits t) := by
  induction rows with
  | nil => rfl
  | cons r rest ih =>
    rw [firstRow, List.find?_cons, ih]
    cases r.hits t <;> rfl

theorem OpcodeRow.hits_iff {r : OpcodeRow} {t : Txn} : r.hits t = true ↔
    r.fmt = t.fmt ∧ t.addr &&& r.addrMask = r.addrMatch ∧ t.data &&& r.dataMask = r.dataMatch := by
  simp [OpcodeRow.hits, and_assoc]

/-- The catch-all rows leave no transaction without a row (R122, R164). -/
theorem exists_unmapped_row (t : Txn) : ∃ r ∈ opcodeRowsUnmapped, r.hits t = true := by
  simp only [opcodeRowsUnmapped, List.exists_mem_cons_iff, OpcodeRow.hits_iff]
  cases t.fmt <;> simp

/-- Decoding takes the first row of the opcode map that matches (R122). -/
theorem decode_row (t : Txn) : ∃ r ∈ opcodeTable, r.hits t = true ∧ opcodeTable.find? (·.hits t) = some r ∧
    decode t = r.build t.addr t.data := by
  obtain ⟨q, hq, hhits⟩ := exists_unmapped_row t
  have hmem : q ∈ opcodeTable := List.mem_append_right _ hq
  have hfound : (opcodeTable.find? (·.hits t)).isSome = true := List.find?_isSome.2 ⟨q, hmem, hhits⟩
  obtain ⟨r, hr⟩ := Option.isSome_iff_exists.1 hfound
  have hrhits := List.find?_some hr
  refine ⟨r, List.mem_of_find?_eq_some hr, hrhits, hr, ?_⟩
  rw [decode, firstRow_eq_find?, hr]

/-! ### The masks of the opcode map -/

/-- A mask of the opcode map keeps the bits from `k` on and the bits below `j`. -/
theorem toNat_and_mask {w : Nat} (a : BitVec w) {j k : Nat} (hjk : j ≤ k) (hj : j ≤ w) :
    (a &&& (BitVec.allOnes w <<< k ||| BitVec.ofNat w (2 ^ j - 1))).toNat =
      2 ^ k * (a.toNat / 2 ^ k) + a.toNat % 2 ^ j := by
  have hhigh : a &&& BitVec.allOnes w <<< k = (a >>> k) <<< k := by
    ext i hi
    by_cases hik : i < k
    · simp [hik]
    · simp [hik, Nat.add_sub_cancel' (not_lt.1 hik), hi]
  have hhigh' : (a &&& BitVec.allOnes w <<< k).toNat = 2 ^ k * (a.toNat / 2 ^ k) := by
    have hle := Nat.mul_div_le a.toNat (2 ^ k)
    rw [hhigh, BitVec.toNat_shiftLeft, BitVec.toNat_ushiftRight, Nat.shiftLeft_eq, Nat.shiftRight_eq_div_pow,
      Nat.mul_comm, Nat.mod_eq_of_lt (by omega)]
  have hlow : (a &&& BitVec.ofNat w (2 ^ j - 1)).toNat = a.toNat % 2 ^ j := by
    have hle := Nat.pow_le_pow_right (n := 2) (by omega) hj
    have hpos := Nat.two_pow_pos j
    rw [BitVec.toNat_and, BitVec.toNat_ofNat, Nat.mod_eq_of_lt (by omega), Nat.and_two_pow_sub_one_eq_mod]
  have hlt : a.toNat % 2 ^ j < 2 ^ k :=
    (Nat.mod_lt _ (Nat.two_pow_pos j)).trans_le (Nat.pow_le_pow_right (by omega) hjk)
  rw [BitVec.and_or_distrib_left, BitVec.toNat_or, hlow, hhigh', Nat.two_pow_add_eq_or_of_lt hlt]

theorem and_mask_eq_iff {w : Nat} (a m : BitVec w) {mask : BitVec w} {j k : Nat} (hjk : j ≤ k) (hj : j ≤ w)
    (hmask : mask = BitVec.allOnes w <<< k ||| BitVec.ofNat w (2 ^ j - 1)) :
    a &&& mask = m ↔ 2 ^ k * (a.toNat / 2 ^ k) + a.toNat % 2 ^ j = m.toNat := by
  rw [BitVec.toNat_eq, hmask, toNat_and_mask a hjk hj]

/-! The address masks of the opcode map: one register, one of eight registers, a register at an offset inside it, the
register window and the RAM windows. -/

section masks

variable (a m : Word)

theorem and_registerMask : a &&& 0xFFFFFFFF#32 = m ↔ a.toNat = m.toNat :=
  (and_mask_eq_iff a m (j := 0) (k := 0) (by decide) (by decide) rfl).trans (by omega)

theorem and_indexedMask : a &&& 0xFFFFFFE3#32 = m ↔ 32 * (a.toNat / 32) + a.toNat % 4 = m.toNat :=
  and_mask_eq_iff a m (j := 2) (k := 5) (by decide) (by decide) rfl

theorem and_misalignedMask : a &&& 0xFFFFFC03#32 = m ↔ 1024 * (a.toNat / 1024) + a.toNat % 4 = m.toNat :=
  and_mask_eq_iff a m (j := 2) (k := 10) (by decide) (by decide) rfl

theorem and_registerWindowMask : a &&& 0xFFFFFC00#32 = m ↔ 1024 * (a.toNat / 1024) = m.toNat :=
  (and_mask_eq_iff a m (j := 0) (k := 10) (by decide) (by decide) rfl).trans (by omega)

theorem and_frameWindowMask : a &&& 0xFFFFF000#32 = m ↔ 4096 * (a.toNat / 4096) = m.toNat :=
  (and_mask_eq_iff a m (j := 0) (k := 12) (by decide) (by decide) rfl).trans (by omega)

theorem and_pcmWindowMask : a &&& 0xFFF00000#32 = m ↔ 1048576 * (a.toNat / 1048576) = m.toNat :=
  (and_mask_eq_iff a m (j := 0) (k := 20) (by decide) (by decide) rfl).trans (by omega)

/-! The data masks: the command bits of CTRL, ENC_CTRL and DET_PUSH, and those of RX_CTRL. -/

theorem and_commandMask : a &&& 1#32 = m ↔ a.toNat % 2 = m.toNat :=
  (and_mask_eq_iff a m (j := 1) (k := 32) (by decide) (by decide) rfl).trans (by omega)

theorem and_rxCommandMask : a &&& 3#32 = m ↔ a.toNat % 4 = m.toNat :=
  (and_mask_eq_iff a m (j := 2) (k := 32) (by decide) (by decide) rfl).trans (by omega)

end masks

theorem getLsbD_of_and_eq {w : Nat} {d mask m : BitVec w} (h : d &&& mask = m) {i : Nat}
    (hi : mask.getLsbD i = true) : d.getLsbD i = m.getLsbD i := by
  rw [← h, BitVec.getLsbD_and, hi, Bool.and_true]

/-! ### The opcode map in stages -/

/-- The rows of the assigned registers. -/
def registerRows : List OpcodeRow := opcodeRowsBus ++ opcodeRowsEnc ++ opcodeRowsDet ++ opcodeRowsAcc

/-- The rows of the misaligned and narrow register accesses. -/
def illegalRows : List OpcodeRow := opcodeRowsRegErr.take 10

/-- The rows of the reserved register offsets. -/
def reservedRows : List OpcodeRow := opcodeRowsRegErr.drop 10

theorem opcodeTable_eq_stages :
    opcodeTable = registerRows ++ (illegalRows ++ (reservedRows ++ (opcodeRowsRam ++ opcodeRowsUnmapped))) := by
  rfl

/-- A row of CTRL, ENC_CTRL or DET_PUSH fixes its command bit, and the other rows of the first three groups build
instructions with no condition on the data. -/
theorem commandRows_wellFormed {r : OpcodeRow} (hr : r ∈ opcodeRowsBus ++ opcodeRowsEnc ++ opcodeRowsDet) {a d : Word}
    (hd : d &&& r.dataMask = r.dataMatch) : (r.build a d).wellFormed = true := by
  revert r
  rw [← List.forall_iff_forall_mem]
  repeat' apply And.intro
  all_goals intro hd
  any_goals rfl
  all_goals
    have hbit := getLsbD_of_and_eq hd (i := 0) rfl
    simpa [Instr.wellFormed] using hbit

/-- A row of RX_CTRL fixes its two command bits. -/
theorem accRows_wellFormed {r : OpcodeRow} (hr : r ∈ opcodeRowsAcc) {a d : Word}
    (hd : d &&& r.dataMask = r.dataMatch) : (r.build a d).wellFormed = true := by
  revert r
  rw [← List.forall_iff_forall_mem]
  repeat' apply And.intro
  all_goals intro hd
  any_goals rfl
  all_goals
    have hflush := getLsbD_of_and_eq hd (i := 0) rfl
    have hack := getLsbD_of_and_eq hd (i := 1) rfl
    simpa [Instr.wellFormed] using And.intro hflush hack

theorem illegalRows_wellFormed {r : OpcodeRow} (hr : r ∈ illegalRows) (a d : Word) :
    (r.build a d).wellFormed = true := by
  revert r
  rw [← List.forall_iff_forall_mem]
  repeat' apply And.intro
  all_goals rfl

theorem ramRows_wellFormed {r : OpcodeRow} (hr : r ∈ opcodeRowsRam) (a d : Word) :
    (r.build a d).wellFormed = true := by
  revert r
  rw [← List.forall_iff_forall_mem]
  repeat' apply And.intro
  all_goals rfl

/-! Each group of registers has a row for every aligned access to one of its registers, whatever the data. -/

theorem exists_busRow {t : Txn} (hfmt : t.fmt = .rd32 ∨ t.fmt = .wr32) (ha : t.addr.toNat % 4 = 0)
    (h : t.addr.toNat ≤ 0x018) : ∃ r ∈ opcodeRowsBus, r.hits t = true := by
  by_contra hmiss
  obtain hfmt | hfmt := hfmt
  all_goals
    simp [opcodeRowsBus, OpcodeRow.hits_iff, hfmt, and_registerMask, and_commandMask] at hmiss
    omega

theorem exists_encRow {t : Txn} (hfmt : t.fmt = .rd32 ∨ t.fmt = .wr32) (ha : t.addr.toNat % 4 = 0)
    (h : 0x100 ≤ t.addr.toNat ∧ t.addr.toNat ≤ 0x13C) : ∃ r ∈ opcodeRowsEnc, r.hits t = true := by
  by_contra hmiss
  obtain hfmt | hfmt := hfmt
  all_goals
    simp [opcodeRowsEnc, OpcodeRow.hits_iff, hfmt, and_registerMask, and_indexedMask, and_commandMask] at hmiss
    omega

theorem exists_detRow {t : Txn} (hfmt : t.fmt = .rd32 ∨ t.fmt = .wr32) (ha : t.addr.toNat % 4 = 0)
    (h : (0x200 ≤ t.addr.toNat ∧ t.addr.toNat ≤ 0x214) ∨ (0x220 ≤ t.addr.toNat ∧ t.addr.toNat ≤ 0x25C)) :
    ∃ r ∈ opcodeRowsDet, r.hits t = true := by
  by_contra hmiss
  obtain hfmt | hfmt := hfmt
  all_goals
    simp [opcodeRowsDet, OpcodeRow.hits_iff, hfmt, and_registerMask, and_indexedMask, and_commandMask] at hmiss
    omega

theorem exists_accRow {t : Txn} (hfmt : t.fmt = .rd32 ∨ t.fmt = .wr32) (ha : t.addr.toNat % 4 = 0)
    (h : 0x300 ≤ t.addr.toNat ∧ t.addr.toNat ≤ 0x318) : ∃ r ∈ opcodeRowsAcc, r.hits t = true := by
  by_contra hmiss
  obtain hfmt | hfmt := hfmt
  all_goals
    simp [opcodeRowsAcc, OpcodeRow.hits_iff, hfmt, and_registerMask, and_rxCommandMask] at hmiss
    omega

/-- The rows of the registers match every aligned access to an assigned register (R122, R125). -/
theorem exists_registerRow {t : Txn} (hfmt : t.fmt = .rd32 ∨ t.fmt = .wr32) (ha : t.addr.toNat % 4 = 0)
    (hwindow : t.addr.toNat < 1024) (hassigned : registerAssigned (wordField t.addr) = true) :
    ∃ r ∈ registerRows, r.hits t = true := by
  have hr : 4 * (wordField t.addr).toNat = t.addr.toNat := by
    rw [wordField, BitVec.extractLsb'_toNat, Nat.shiftRight_eq_div_pow]
    omega
  simp only [registerRows, List.mem_append, or_and_right, exists_or]
  simp only [registerAssigned, hr, Bool.or_eq_true, Bool.and_eq_true, decide_eq_true_eq] at hassigned
  obtain (((h | h) | h) | h) | h := hassigned
  · exact .inl (.inl (.inl (exists_busRow hfmt ha h)))
  · exact .inl (.inl (.inr (exists_encRow hfmt ha h)))
  · exact .inl (.inr (exists_detRow hfmt ha (.inl h)))
  · exact .inl (.inr (exists_detRow hfmt ha (.inr h)))
  · exact .inr (exists_accRow hfmt ha h)

/-- A row of the reserved offsets builds a well-formed instruction where no row before it matches: the access is
aligned and names no assigned register (R153). -/
theorem reservedRows_wellFormed {r : OpcodeRow} (hr : r ∈ reservedRows) {t : Txn} (hhits : r.hits t = true)
    (hregister : ∀ q ∈ registerRows, ¬q.hits t = true) (hillegal : ∀ q ∈ illegalRows, ¬q.hits t = true) :
    (r.build t.addr t.data).wellFormed = true := by
  have key (hfmt : t.fmt = .rd32 ∨ t.fmt = .wr32) (hwindow : 1024 * (t.addr.toNat / 1024) = 0) :
      registerAssigned (wordField t.addr) = false := by
    have ha : t.addr.toNat % 4 = 0 := by
      obtain hfmt | hfmt := hfmt
      all_goals
        simp [illegalRows, opcodeRowsRegErr, OpcodeRow.hits_iff, hfmt, and_misalignedMask] at hillegal
        omega
    by_contra hassigned
    obtain ⟨q, hq, hhits⟩ := exists_registerRow hfmt ha (by omega) (by simpa using hassigned)
    exact hregister q hq hhits
  simp only [reservedRows, opcodeRowsRegErr, List.drop_succ_cons, List.drop_zero, List.mem_cons, List.not_mem_nil,
    or_false] at hr
  obtain ⟨hfmt, hwindow, -⟩ := OpcodeRow.hits_iff.1 hhits
  obtain rfl | rfl := hr
  · simpa [Instr.wellFormed] using key (.inl hfmt.symm) ((and_registerWindowMask _ _).1 hwindow)
  · simpa [Instr.wellFormed] using key (.inr hfmt.symm) ((and_registerWindowMask _ _).1 hwindow)

theorem regionOf_eq_none_iff (a : Word) : regionOf a = none ↔
    ¬a.toNat ≤ 0x3FF ∧ ¬(0x1000 ≤ a.toNat ∧ a.toNat ≤ 0x1FFF) ∧ ¬(0x2000 ≤ a.toNat ∧ a.toNat ≤ 0x2FFF) ∧
      ¬(0x100000 ≤ a.toNat ∧ a.toNat ≤ 0x1FFFFF) := by
  unfold regionOf
  dsimp only
  split_ifs <;> simp_all

/-- An offset is in no region when no row of the four windows matches. -/
theorem unmappedRows_wellFormed {r : OpcodeRow} (hr : r ∈ opcodeRowsUnmapped) {t : Txn} (hhits : r.hits t = true)
    (hillegal : ∀ q ∈ illegalRows, ¬q.hits t = true) (hreserved : ∀ q ∈ reservedRows, ¬q.hits t = true)
    (hram : ∀ q ∈ opcodeRowsRam, ¬q.hits t = true) : (r.build t.addr t.data).wellFormed = true := by
  have key : regionOf t.addr = none := by
    rw [regionOf_eq_none_iff]
    cases hfmt : t.fmt
    all_goals
      simp [illegalRows, reservedRows, opcodeRowsRegErr, opcodeRowsRam, OpcodeRow.hits_iff, hfmt,
        and_registerWindowMask, and_frameWindowMask, and_pcmWindowMask] at hillegal hreserved hram
      omega
  revert r
  rw [← List.forall_iff_forall_mem]
  repeat' apply And.intro
  all_goals exact fun _ => beq_iff_eq.2 key

/-- Every decoded instruction is well formed (R122, R125). -/
theorem decode_wellFormed (t : Txn) : (decode t).wellFormed = true := by
  obtain ⟨r, -, hhits, hfind, hdecode⟩ := decode_row t
  obtain ⟨-, -, hdata⟩ := OpcodeRow.hits_iff.1 hhits
  rw [hdecode]
  simp only [opcodeTable_eq_stages, List.find?_append, Option.or_eq_some_iff, List.find?_eq_none] at hfind
  obtain hr | ⟨hregister, hr | ⟨hillegal, hr | ⟨hreserved, hr | ⟨hram, hr⟩⟩⟩⟩ := hfind
  · obtain hr | hr := List.mem_append.1 (List.mem_of_find?_eq_some hr)
    · exact commandRows_wellFormed hr hdata
    · exact accRows_wellFormed hr hdata
  · exact illegalRows_wellFormed (List.mem_of_find?_eq_some hr) _ _
  · exact reservedRows_wellFormed (List.mem_of_find?_eq_some hr) hhits hregister hillegal
  · exact ramRows_wellFormed (List.mem_of_find?_eq_some hr) _ _
  · exact unmappedRows_wellFormed (List.mem_of_find?_eq_some hr) hhits hillegal hreserved hram

end Sys2Proof

/-!
PROOFS. A step at a transaction (O6) and at an engine turn (O7), and reads (O9).
-/

namespace Sys2Proof

/-- The instructions of the three read formats (R120). -/
def Instr.reads : Instr → Bool
  | .rdId | .rdCtrl | .rdIrqStatus | .rdIrqEnable | .rdTxDepthR | .rdRxDepthR | .rdPcmDepthR
  | .rdEncCtrl | .rdEncStatus | .rdEncSpw | .rdEncAmp | .rdEncStartOff | .rdEncLen | .rdEncNsamp | .rdEncPos
  | .rdEncInc _
  | .rdDetPush | .rdDetThresh | .rdDetFloor | .rdDetResult | .rdDetDom | .rdDetSlots | .rdDetLevel _
  | .rdDetOffset _
  | .rdRxCtrl | .rdRxCfg | .rdRxStatus | .rdRxCount | .rdRxFrameLen | .rdRxDebug | .rdRxRuncnt
  | .busErrMisalignedRd32At1 _ | .busErrMisalignedRd32At2 _ | .busErrMisalignedRd32At3 _
  | .busErrNarrowRd8 _ | .busErrNarrowRd16 _ | .rdRsvd _
  | .rdTx8 _ | .rdTx16 _ | .rdTx32 _ | .rdRx8 _ | .rdRx16 _ | .rdRx32 _ | .rdPcm8 _ | .rdPcm16 _ | .rdPcm32 _
  | .busErrUnmappedRd8 _ | .busErrUnmappedRd16 _ | .busErrUnmappedRd32 _ => true
  | _ => false

/-- A transaction reads exactly when its instruction does: every row's format is that of its instruction. -/
theorem decode_reads (t : Txn) : (decode t).reads = Machine.readFormat t.fmt := by
  have hrows : ∀ r ∈ opcodeTable, ∀ a d, (r.build a d).reads = Machine.readFormat r.fmt := by
    rw [← List.forall_iff_forall_mem]
    repeat' apply And.intro
    all_goals exact fun _ _ => rfl
  obtain ⟨r, hmem, hhits, -, hdecode⟩ := decode_row t
  obtain ⟨hfmt, -, -⟩ := OpcodeRow.hits_iff.1 hhits
  rw [hdecode, hrows r hmem, hfmt]

namespace Machine

/-! ### Steps with `rst` deasserted -/

theorem step_bus {s : State} {t : Txn} {rest : List Event} (hrst : s.rst = false) (hs : s.schedule = .bus t :: rest) :
    step s = exec (decode t) (s.setSchedule rest) := by
  simp [step, fetch, hs, hrst]

theorem step_engineTurn {s : State} {rest : List Event} (hrst : s.rst = false)
    (hs : s.schedule = .engineTurn :: rest) : step s = exec .engineStep (s.setSchedule rest) := by
  simp [step, fetch, hs, hrst]

/-- With nothing scheduled the engine goes on while BUSY, and MODEM waits otherwise (R105, R308). -/
theorem step_unscheduled {s : State} (hrst : s.rst = false) (hs : s.schedule = []) :
    step s = if s.enc.busy then exec .engineStep s else .next s := by
  cases hb : s.enc.busy <;> simp [step, fetch, hs, hrst, hb]

/-- Settles O6: the event is the instruction it decodes to, and the decoder answers well-formed instructions. -/
theorem stepRunsTransaction : Obligations.StepRunsTransaction := fun _ t _ hrst hs =>
  ⟨step_bus hrst hs, decode_wellFormed t⟩

/-- Settles O7, by the schedule: an engine turn next, or nothing with the engine busy or idle. -/
theorem stepRunsEngine : Obligations.StepRunsEngine := by
  intro s hrst
  refine ⟨fun _ hs => step_engineTurn hrst hs, fun hs hb => ?_, fun hs hb => ?_⟩
  · exact (step_unscheduled hrst hs).trans (if_pos hb)
  · exact (step_unscheduled hrst hs).trans (if_neg (by simp [hb]))

/-! ### Reads -/

/-- What a read can be: a register's word, the bytes of a RAM, or the bus error. -/
inductive ReadOp : (State → StepResult) → Prop where
  | register (word : State → Word) (hword : ∀ s r, word (s.setReply r) = word s) :
      ReadOp fun s => readRegister (word s) s
  | ram (r : Ram) (w : Width) (j : Nat) : ReadOp (ramRead r w j)
  | illegal : ReadOp illegalRead

/-- Every instruction of a read format is one of these reads. -/
theorem exec_reads {i : Instr} (h : i.reads = true) : ReadOp (exec i) := by
  cases i
  case rdTx8 j | rdRx8 j | rdPcm8 j | rdTx16 j | rdRx16 j | rdPcm16 j | rdTx32 j | rdRx32 j | rdPcm32 j =>
    exact .ram _ _ j.toNat
  case busErrMisalignedRd32At1 | busErrMisalignedRd32At2 | busErrMisalignedRd32At3 | busErrNarrowRd8 |
      busErrNarrowRd16 | busErrUnmappedRd8 | busErrUnmappedRd16 | busErrUnmappedRd32 =>
    exact .illegal
  all_goals cases h
  all_goals exact .register _ fun _ _ => rfl

theorem State.readLE_setReply (s : State) (r : Reply) (a n : Nat) : (s.setReply r).readLE a n = s.readLE a n := by
  induction n generalizing a with
  | zero => rfl
  | succ n ih =>
    rw [State.readLE, ih]
    rfl

/-- A read answers what does not depend on the reply before it, and changes the reply alone (R91, R101). -/
theorem ReadOp.reply {g : State → StepResult} (hg : ReadOp g) (s : State) :
    ∃ rsp d, ∀ r, g (s.setReply r) = .next (s.setReply (.read rsp d)) := by
  cases hg with
  | register word hword =>
    refine ⟨.okay, word s, fun r => ?_⟩
    simp only [hword]
    rfl
  | illegal => exact ⟨.error, 0, fun _ => rfl⟩
  | ram m w j =>
    cases hok : ramAccessOk s.params m w j with
    | true =>
      refine ⟨.okay, s.readLE (m.base + j) w.bytes, fun r => ?_⟩
      rw [← s.readLE_setReply r]
      exact if_pos hok
    | false => exact ⟨.error, 0, fun r => if_neg (by simp [hok])⟩

/-- Settles O9: the reply of a read is the same from the state that holds the reply already. -/
theorem readsHaveNoSideEffects : Obligations.ReadsHaveNoSideEffects := by
  intro s t hread
  obtain ⟨rsp, d, hreply⟩ := (exec_reads ((decode_reads t).trans hread)).reply s
  exact ⟨s.setReply (.read rsp d), rsp, d, rfl, hreply s.reply, hreply (.read rsp d)⟩

end Machine

end Sys2Proof

/-!
PROOFS. Encoding and decoding (O1 to O5): the operand fields of an address, what encoding gives back of a row of the
opcode map, and that no row before an instruction's own takes its transaction.
-/

namespace Sys2Proof

/-! ### Operand fields of an address (R123) -/

theorem wordField_toNat (a : Word) : (wordField a).toNat = a.toNat / 4 % 256 := by
  rw [wordField, BitVec.extractLsb'_toNat, Nat.shiftRight_eq_div_pow]

theorem registerAddr_toNat (r : BitVec 8) (low : BitVec 2) :
    (registerAddr r low).toNat = 4 * r.toNat + low.toNat := by
  rw [registerAddr, BitVec.toNat_append, BitVec.toNat_append, BitVec.toNat_ofNat, Nat.zero_mod, Nat.zero_shiftLeft,
    Nat.zero_or, ← Nat.shiftLeft_add_eq_or_of_lt low.isLt, Nat.shiftLeft_eq, Nat.mul_comm]

theorem indexField_val (a : Word) : (indexField a).val = a.toNat / 4 % 8 := rfl

theorem indexedAddr_toNat {base : Nat} (k : Fin 8) : (indexedAddr base k).toNat = (base + 4 * k.val) % 2 ^ 32 := by
  rw [indexedAddr, BitVec.toNat_ofNat]

/-! The field of an encoded address is the operand. -/

theorem wordField_registerAddr (r : BitVec 8) (low : BitVec 2) : wordField (registerAddr r low) = r := by
  apply BitVec.eq_of_toNat_eq
  rw [wordField_toNat, registerAddr_toNat]
  omega

theorem indexField_indexedAddr {base : Nat} (hbase : base % 32 = 0) (k : Fin 8) :
    indexField (indexedAddr base k) = k := by
  apply Fin.ext
  rw [indexField_val, indexedAddr_toNat]
  omega

/-! An encoded address matches its row. -/

theorem registerAddr_and_misalignedMask (r : BitVec 8) (low : BitVec 2) :
    registerAddr r low &&& 0xFFFFFC03#32 = low.setWidth 32 := by
  rw [and_misalignedMask, registerAddr_toNat, BitVec.toNat_setWidth]
  omega

theorem registerAddr_and_registerWindowMask (r : BitVec 8) (low : BitVec 2) :
    registerAddr r low &&& 0xFFFFFC00#32 = 0#32 := by
  rw [and_registerWindowMask, registerAddr_toNat, BitVec.toNat_ofNat]
  omega

theorem indexedAddr_and_indexedMask {base : Nat} (hbase : base % 32 = 0) (k : Fin 8) :
    indexedAddr base k &&& 0xFFFFFFE3#32 = BitVec.ofNat 32 base := by
  rw [and_indexedMask, indexedAddr_toNat, BitVec.toNat_ofNat]
  omega

theorem append_and_windowMask {v w : Nat} (p : BitVec v) (i : BitVec w) :
    (p ++ i) &&& (BitVec.allOnes v ++ 0#w) = p ++ 0#w := by
  ext k hk
  simp only [BitVec.getElem_and, BitVec.getElem_append]
  split <;> simp

/-! An address that matches a row is the one its field encodes. -/

theorem registerAddr_wordField {a : Word} {low : BitVec 2} (hwindow : a.toNat < 1024)
    (hlow : a.toNat % 4 = low.toNat) : registerAddr (wordField a) low = a := by
  apply BitVec.eq_of_toNat_eq
  rw [registerAddr_toNat, wordField_toNat]
  omega

theorem registerAddr_of_misalignedMask {a : Word} {low : BitVec 2} (ha : a &&& 0xFFFFFC03#32 = low.setWidth 32) :
    registerAddr (wordField a) low = a := by
  rw [and_misalignedMask, BitVec.toNat_setWidth] at ha
  exact registerAddr_wordField (by omega) (by omega)

theorem indexedAddr_of_indexedMask {base : Nat} (hbase : base % 32 = 0) {a : Word}
    (ha : a &&& 0xFFFFFFE3#32 = BitVec.ofNat 32 base) : indexedAddr base (indexField a) = a := by
  rw [and_indexedMask, BitVec.toNat_ofNat] at ha
  apply BitVec.eq_of_toNat_eq
  rw [indexedAddr_toNat, indexField_val]
  omega

theorem append_of_windowMask {v w : Nat} {p : BitVec v} {a : BitVec (v + w)}
    (ha : a &&& (BitVec.allOnes v ++ 0#w) = p ++ 0#w) : p ++ a.extractLsb' 0 w = a := by
  apply BitVec.eq_of_getLsbD_eq
  intro k hk
  have hbit := congrArg (·.getLsbD k) ha
  by_cases hkw : k < w
  · simp [BitVec.getLsbD_append, hkw]
  · have hkv : k - w < v := by omega
    simpa [BitVec.getLsbD_append, hkw, hkv, eq_comm] using hbit

/-! The command bits of the data (R125). -/

theorem and_one_eq_ite (d : Word) : d &&& 1#32 = if d.getLsbD 0 then 1#32 else 0#32 := by
  rw [and_commandMask, BitVec.getLsbD, Nat.testBit_zero]
  split <;> simp_all

theorem and_three_eq_ite (d : Word) :
    d &&& 3#32 = (if d.getLsbD 1 then 2#32 else 0#32) + if d.getLsbD 0 then 1#32 else 0#32 := by
  rw [and_rxCommandMask, BitVec.getLsbD, BitVec.getLsbD, Nat.testBit_zero, Nat.testBit_succ, Nat.testBit_zero]
  split <;> split <;> simp_all <;> omega

/-! ### Encoding what a row builds -/

/-- The write data a format carries; a read carries none, and a narrow write the low bits alone (R120, R121). -/
def Format.carried : Format → Word → Word
  | .rd8, _ | .rd16, _ | .rd32, _ => 0
  | .wr8, d => (d.setWidth 8).setWidth 32
  | .wr16, d => (d.setWidth 16).setWidth 32
  | .wr32, d => d.setWidth 32

theorem Txn.canonical_iff {t : Txn} : t.canonical = true ↔ t.data = t.fmt.carried t.data := by
  unfold Txn.canonical
  cases t.fmt <;> simp [Format.carried]

/-- Encoding what the row builds at the address gives the address back, and the data the format carries. -/
def OpcodeRow.EncodesBack (r : OpcodeRow) (a : Word) : Prop :=
  ∀ d, encode (r.build a d) = some ⟨r.fmt, a, r.fmt.carried d⟩

/-- The encoder spells the row's format and its carried data; what is left to say is the address. -/
theorem OpcodeRow.EncodesBack.of_addr {r : OpcodeRow} {a b : Word}
    (h : ∀ d, encode (r.build a d) = some ⟨r.fmt, b, r.fmt.carried d⟩) (hb : b = a) : r.EncodesBack a := by
  subst hb
  exact h

theorem registerRows_encodeBack {r : OpcodeRow} (hr : r ∈ registerRows) {a : Word}
    (ha : a &&& r.addrMask = r.addrMatch) : r.EncodesBack a := by
  revert r
  rw [← List.forall_iff_forall_mem]
  repeat' apply And.intro
  all_goals
    intro ha
    refine .of_addr (fun _ => rfl) ?_
  any_goals exact indexedAddr_of_indexedMask rfl ha
  all_goals exact ha.symm.trans BitVec.and_allOnes

theorem illegalRows_encodeBack {r : OpcodeRow} (hr : r ∈ illegalRows) {a : Word}
    (ha : a &&& r.addrMask = r.addrMatch) : r.EncodesBack a := by
  revert r
  rw [← List.forall_iff_forall_mem]
  repeat' apply And.intro
  all_goals
    intro ha
    refine .of_addr (fun _ => rfl) ?_
  any_goals exact append_of_windowMask ha
  all_goals exact registerAddr_of_misalignedMask ha

/-- The reserved rows drop the two low address bits, so they give an aligned address back. -/
theorem reservedRows_encodeBack {r : OpcodeRow} (hr : r ∈ reservedRows) {a : Word} (hwindow : a.toNat < 1024)
    (haligned : a.toNat % 4 = 0) : r.EncodesBack a := by
  revert r
  rw [← List.forall_iff_forall_mem]
  repeat' apply And.intro
  all_goals exact .of_addr (fun _ => rfl) (registerAddr_wordField hwindow haligned)

theorem ramRows_encodeBack {r : OpcodeRow} (hr : r ∈ opcodeRowsRam) {a : Word}
    (ha : a &&& r.addrMask = r.addrMatch) : r.EncodesBack a := by
  revert r
  rw [← List.forall_iff_forall_mem]
  repeat' apply And.intro
  all_goals exact fun ha => .of_addr (fun _ => rfl) (append_of_windowMask ha)

theorem unmappedRows_encodeBack {r : OpcodeRow} (hr : r ∈ opcodeRowsUnmapped) (a : Word) : r.EncodesBack a := by
  revert r
  rw [← List.forall_iff_forall_mem]
  repeat' apply And.intro
  all_goals exact fun _ => rfl

/-! ### What the rows of a stage match -/

theorem registerRows_fmt {r : OpcodeRow} (hr : r ∈ registerRows) : r.fmt = .rd32 ∨ r.fmt = .wr32 := by
  revert r
  decide

theorem registerRows_addr {r : OpcodeRow} (hr : r ∈ registerRows) {a : Word} (ha : a &&& r.addrMask = r.addrMatch) :
    a.toNat < 1024 ∧ a.toNat % 4 = 0 ∧ registerAssigned (wordField a) = true := by
  simp only [registerAssigned, wordField_toNat, Bool.or_eq_true, Bool.and_eq_true, decide_eq_true_eq]
  revert r
  rw [← List.forall_iff_forall_mem]
  repeat' apply And.intro
  all_goals
    intro ha
    simp [and_registerMask, and_indexedMask] at ha
    omega

/-- The rows of the registers match aligned 32-bit accesses to assigned registers only (R122, R125). -/
theorem registerRows_hits {r : OpcodeRow} (hr : r ∈ registerRows) {t : Txn} (hhits : r.hits t = true) :
    (t.fmt = .rd32 ∨ t.fmt = .wr32) ∧ t.addr.toNat < 1024 ∧ t.addr.toNat % 4 = 0 ∧
      registerAssigned (wordField t.addr) = true := by
  obtain ⟨hfmt, ha, -⟩ := OpcodeRow.hits_iff.1 hhits
  exact ⟨hfmt ▸ registerRows_fmt hr, registerRows_addr hr ha⟩

/-- The rows of the illegal register accesses match no aligned 32-bit access (R164). -/
theorem illegalRows_hits {r : OpcodeRow} (hr : r ∈ illegalRows) {t : Txn} (hhits : r.hits t = true) :
    t.addr.toNat < 1024 ∧ (t.fmt = .rd32 ∨ t.fmt = .wr32 → t.addr.toNat % 4 ≠ 0) := by
  obtain ⟨hfmt, ha, -⟩ := OpcodeRow.hits_iff.1 hhits
  rw [← hfmt]
  clear hhits hfmt
  revert r
  rw [← List.forall_iff_forall_mem]
  repeat' apply And.intro
  all_goals
    intro ha
    simp [and_misalignedMask, and_registerWindowMask] at ha ⊢
    omega

/-- The reserved rows match 32-bit accesses to the register window (R153). -/
theorem reservedRows_hits {r : OpcodeRow} (hr : r ∈ reservedRows) {t : Txn} (hhits : r.hits t = true) :
    (t.fmt = .rd32 ∨ t.fmt = .wr32) ∧ t.addr.toNat < 1024 := by
  obtain ⟨hfmt, ha, -⟩ := OpcodeRow.hits_iff.1 hhits
  rw [← hfmt]
  clear hhits hfmt
  revert r
  rw [← List.forall_iff_forall_mem]
  repeat' apply And.intro
  all_goals
    intro ha
    simp [and_registerWindowMask] at ha ⊢
    omega

/-- The rows of the RAM windows match offsets in a window (R92). -/
theorem ramRows_hits {r : OpcodeRow} (hr : r ∈ opcodeRowsRam) {t : Txn} (hhits : r.hits t = true) :
    (0x1000 ≤ t.addr.toNat ∧ t.addr.toNat ≤ 0x2FFF) ∨ (0x100000 ≤ t.addr.toNat ∧ t.addr.toNat ≤ 0x1FFFFF) := by
  obtain ⟨-, ha, -⟩ := OpcodeRow.hits_iff.1 hhits
  clear hhits
  revert r
  rw [← List.forall_iff_forall_mem]
  repeat' apply And.intro
  all_goals
    intro ha
    simp [and_frameWindowMask, and_pcmWindowMask] at ha
    omega

/-- The rows of the misaligned accesses match every 32-bit access that is not aligned (R164). -/
theorem aligned_of_illegalRows_miss {t : Txn} (hfmt : t.fmt = .rd32 ∨ t.fmt = .wr32) (hwindow : t.addr.toNat < 1024)
    (hmiss : ∀ q ∈ illegalRows, ¬q.hits t = true) : t.addr.toNat % 4 = 0 := by
  obtain hfmt | hfmt := hfmt
  all_goals
    simp [illegalRows, opcodeRowsRegErr, OpcodeRow.hits_iff, hfmt, and_misalignedMask] at hmiss
    omega

/-! ### Encoding a decoded transaction -/

/-- The row a transaction decodes by gives its address back. -/
theorem decode_encodesBack (t : Txn) :
    ∃ r : OpcodeRow, r.fmt = t.fmt ∧ decode t = r.build t.addr t.data ∧ r.EncodesBack t.addr := by
  obtain ⟨r, -, hhits, hfind, hdecode⟩ := decode_row t
  obtain ⟨hfmt, ha, -⟩ := OpcodeRow.hits_iff.1 hhits
  refine ⟨r, hfmt, hdecode, ?_⟩
  simp only [opcodeTable_eq_stages, List.find?_append, Option.or_eq_some_iff, List.find?_eq_none] at hfind
  obtain hr | ⟨-, hr | ⟨hillegal, hr | ⟨-, hr | ⟨-, hr⟩⟩⟩⟩ := hfind
  · exact registerRows_encodeBack (List.mem_of_find?_eq_some hr) ha
  · exact illegalRows_encodeBack (List.mem_of_find?_eq_some hr) ha
  · have hmem := List.mem_of_find?_eq_some hr
    obtain ⟨hfmt32, hwindow⟩ := reservedRows_hits hmem hhits
    exact reservedRows_encodeBack hmem hwindow (aligned_of_illegalRows_miss hfmt32 hwindow hillegal)
  · exact ramRows_encodeBack (List.mem_of_find?_eq_some hr) ha
  · exact unmappedRows_encodeBack (List.mem_of_find?_eq_some hr) _

/-- Settles O2: the row gives the address and the carried data back, which is all of a canonical transaction. -/
theorem encodeInvertsDecode : Obligations.EncodeInvertsDecode := by
  intro t ht
  obtain ⟨r, hfmt, hdecode, hback⟩ := decode_encodesBack t
  calc encode (decode t) = some ⟨r.fmt, t.addr, r.fmt.carried t.data⟩ := hdecode ▸ hback t.data
    _ = some t := by rw [hfmt, ← Txn.canonical_iff.1 ht]

/-! ### An instruction's own row -/

/-- The row matches the transaction and builds the instruction from it. -/
structure OpcodeRow.Spells (r : OpcodeRow) (t : Txn) (i : Instr) : Prop where
  fmt : r.fmt = t.fmt
  addr : t.addr &&& r.addrMask = r.addrMatch
  data : t.data &&& r.dataMask = r.dataMatch
  build : r.build t.addr t.data = i

theorem OpcodeRow.Spells.hits {r : OpcodeRow} {t : Txn} {i : Instr} (h : r.Spells t i) : r.hits t = true :=
  OpcodeRow.hits_iff.2 ⟨h.fmt, h.addr, h.data⟩

/-- The instructions stand in the order of the opcode map, and the row at an instruction's place spells it. -/
theorem row_spells_of_encode {i : Instr} {t : Txn} (hwf : i.wellFormed = true) (h : encode i = some t) :
    ∃ r, opcodeTable[i.ctorIdx]? = some r ∧ r.Spells t i := by
  cases i
  case engineStep | accStep | frameClose => cases h
  all_goals obtain rfl := Option.some.inj h
  case srst | wrCtrlNop | encStart | wrEncCtrl | detPush | wrDetPushNop =>
    exact ⟨_, rfl, rfl, BitVec.and_allOnes, by simpa [and_one_eq_ite, Instr.wellFormed] using hwf, by simp⟩
  case rxFlush | rxAck | rxAckFlush | wrRxCtrlNop =>
    obtain ⟨hflush, hack⟩ := Bool.and_eq_true_iff.1 hwf
    exact ⟨_, rfl, rfl, BitVec.and_allOnes, by simp_all [and_three_eq_ite], by simp⟩
  case rdEncInc k | wrEncInc k _ | rdDetLevel k | wrDetLevel k _ | rdDetOffset k | wrDetOffset k _ =>
    exact ⟨_, rfl, rfl, indexedAddr_and_indexedMask rfl k, BitVec.and_zero, by simp [indexField_indexedAddr]⟩
  case busErrMisalignedRd32At1 r | busErrMisalignedWr32At1 r _ | busErrMisalignedRd32At2 r |
      busErrMisalignedWr32At2 r _ | busErrMisalignedRd32At3 r | busErrMisalignedWr32At3 r _ =>
    exact ⟨_, rfl, rfl, registerAddr_and_misalignedMask r _, BitVec.and_zero, by simp [wordField_registerAddr]⟩
  case rdRsvd r | wrRsvd r _ =>
    exact ⟨_, rfl, rfl, registerAddr_and_registerWindowMask r _, BitVec.and_zero, by simp [wordField_registerAddr]⟩
  case busErrNarrowRd8 j | busErrNarrowRd16 j | busErrNarrowWr8 j _ | busErrNarrowWr16 j _ |
      rdTx8 j | wrTx8 j _ | rdRx8 j | wrRx8 j _ | rdPcm8 j | wrPcm8 j _ |
      rdTx16 j | wrTx16 j _ | rdRx16 j | wrRx16 j _ | rdPcm16 j | wrPcm16 j _ |
      rdTx32 j | wrTx32 j _ | rdRx32 j | wrRx32 j _ | rdPcm32 j | wrPcm32 j _ =>
    exact ⟨_, rfl, rfl, append_and_windowMask _ j, BitVec.and_zero,
      by simpa using BitVec.extractLsb'_append_eq_right (b := j)⟩
  case busErrUnmappedRd8 | busErrUnmappedRd16 | busErrUnmappedRd32 | busErrUnmappedWr8 | busErrUnmappedWr16 |
      busErrUnmappedWr32 =>
    exact ⟨_, rfl, rfl, BitVec.and_zero, BitVec.and_zero, by simp⟩
  all_goals exact ⟨_, rfl, rfl, BitVec.and_allOnes, BitVec.and_zero, by simp⟩

/-! ### No other row before it -/

/-- Two rows no transaction matches both of: their formats differ, or their match bits do under both masks. -/
abbrev OpcodeRow.Apart (q r : OpcodeRow) : Prop :=
  q.fmt ≠ r.fmt ∨ q.addrMatch &&& r.addrMask ≠ r.addrMatch &&& q.addrMask ∨
    q.dataMatch &&& r.dataMask ≠ r.dataMatch &&& q.dataMask

theorem OpcodeRow.Apart.symm {q r : OpcodeRow} (h : q.Apart r) : r.Apart q :=
  h.imp Ne.symm (Or.imp Ne.symm Ne.symm)

theorem OpcodeRow.Apart.not_hits {q r : OpcodeRow} (h : q.Apart r) {t : Txn} (hq : q.hits t = true) :
    ¬r.hits t = true := by
  intro hr
  obtain ⟨hqfmt, hqaddr, hqdata⟩ := OpcodeRow.hits_iff.1 hq
  obtain ⟨hrfmt, hraddr, hrdata⟩ := OpcodeRow.hits_iff.1 hr
  obtain hfmt | haddr | hdata := h
  · exact hfmt (hqfmt.trans hrfmt.symm)
  · exact haddr (by rw [← hqaddr, ← hraddr, BitVec.and_assoc, BitVec.and_assoc, BitVec.and_comm q.addrMask])
  · exact hdata (by rw [← hqdata, ← hrdata, BitVec.and_assoc, BitVec.and_assoc, BitVec.and_comm q.dataMask])

theorem registerRows_apart : registerRows.Pairwise OpcodeRow.Apart := by decide

theorem illegalRows_apart : illegalRows.Pairwise OpcodeRow.Apart := by decide

theorem reservedRows_apart : reservedRows.Pairwise OpcodeRow.Apart := by decide

theorem ramRows_apart : opcodeRowsRam.Pairwise OpcodeRow.Apart := by decide

theorem unmappedRows_apart : opcodeRowsUnmapped.Pairwise OpcodeRow.Apart := by decide

/-- In a stage whose rows are apart, a row that matches is the first that does. -/
theorem find?_stage {rows post : List OpcodeRow} (hapart : rows.Pairwise OpcodeRow.Apart) {r : OpcodeRow}
    (hr : r ∈ rows) {t : Txn} (hhits : r.hits t = true) : (rows ++ post).find? (·.hits t) = some r := by
  have hfound : (rows.find? (·.hits t)).isSome = true := List.find?_isSome.2 ⟨r, hr, hhits⟩
  obtain ⟨q, hfind⟩ := Option.isSome_iff_exists.1 hfound
  have hsymm : Std.Symm OpcodeRow.Apart := ⟨fun _ _ => OpcodeRow.Apart.symm⟩
  have hqr : q = r := by
    by_contra hne
    have happ := hapart.forall (List.mem_of_find?_eq_some hfind) hr hne
    have hqhits := List.find?_some hfind
    exact happ.not_hits hqhits hhits
  rw [List.find?_append, hfind, hqr, Option.some_or]

/-- A stage without a matching row is passed over. -/
theorem find?_skip {rows post : List OpcodeRow} {t : Txn} (hmiss : ∀ q ∈ rows, ¬q.hits t = true) :
    (rows ++ post).find? (·.hits t) = post.find? (·.hits t) := by
  rw [List.find?_append, List.find?_eq_none.2 hmiss, Option.none_or]

/-- A row of the reserved offsets spells aligned accesses to no assigned register (R153). -/
theorem reservedRows_spell {r : OpcodeRow} (hr : r ∈ reservedRows) {t : Txn} {i : Instr} (hspells : r.Spells t i)
    (hwf : i.wellFormed = true) (h : encode i = some t) :
    t.addr.toNat % 4 = 0 ∧ registerAssigned (wordField t.addr) = false := by
  obtain ⟨-, -, -, rfl⟩ := hspells
  have haddr : registerAddr (wordField t.addr) 0 = t.addr ∧ registerAssigned (wordField t.addr) = false := by
    simp only [reservedRows, opcodeRowsRegErr, List.drop_succ_cons, List.drop_zero, List.mem_cons, List.not_mem_nil,
      or_false] at hr
    obtain rfl | rfl := hr
    · exact ⟨congrArg Txn.addr (Option.some.inj h), by simpa [Instr.wellFormed] using hwf⟩
    · exact ⟨congrArg Txn.addr (Option.some.inj h), by simpa [Instr.wellFormed] using hwf⟩
  obtain ⟨haddr, hassigned⟩ := haddr
  refine ⟨?_, hassigned⟩
  rw [← haddr, registerAddr_toNat]
  exact Nat.mul_add_mod _ _ _

/-- A row of the unmapped offsets spells accesses to no region (R164). -/
theorem unmappedRows_spell {r : OpcodeRow} (hr : r ∈ opcodeRowsUnmapped) {t : Txn} {i : Instr}
    (hspells : r.Spells t i) (hwf : i.wellFormed = true) : regionOf t.addr = none := by
  obtain ⟨-, -, -, rfl⟩ := hspells
  revert r
  rw [← List.forall_iff_forall_mem]
  repeat' apply And.intro
  all_goals exact fun hwf => beq_iff_eq.1 hwf

/-- Outside the register window the rows of the registers and of the window's errors are passed over. -/
theorem find?_skip_registerWindow {post : List OpcodeRow} {t : Txn} (h : 1024 ≤ t.addr.toNat) :
    (registerRows ++ (illegalRows ++ (reservedRows ++ post))).find? (·.hits t) = post.find? (·.hits t) := by
  rw [find?_skip, find?_skip, find?_skip]
  · exact fun q hq hhits => by have := (reservedRows_hits hq hhits).2; omega
  · exact fun q hq hhits => by have := (illegalRows_hits hq hhits).1; omega
  · exact fun q hq hhits => by have := (registerRows_hits hq hhits).2.1; omega

/-- The row of a well-formed instruction is the first that matches its encoding, whatever its stage: no row of an
earlier one matches (R122). -/
theorem find?_of_spells {r : OpcodeRow} (hr : r ∈ opcodeTable) {t : Txn} {i : Instr} (hspells : r.Spells t i)
    (hwf : i.wellFormed = true) (h : encode i = some t) : opcodeTable.find? (·.hits t) = some r := by
  have hhits := hspells.hits
  rw [opcodeTable_eq_stages] at hr ⊢
  simp only [List.mem_append] at hr
  obtain hr | hr | hr | hr | hr := hr
  · exact find?_stage registerRows_apart hr hhits
  · obtain ⟨-, hmisaligned⟩ := illegalRows_hits hr hhits
    rw [find?_skip]
    · exact find?_stage illegalRows_apart hr hhits
    · intro q hq hqhits
      obtain ⟨hfmt, -, haligned, -⟩ := registerRows_hits hq hqhits
      exact hmisaligned hfmt haligned
  · obtain ⟨hfmt, -⟩ := reservedRows_hits hr hhits
    obtain ⟨haligned, hreserved⟩ := reservedRows_spell hr hspells hwf h
    rw [find?_skip, find?_skip]
    · exact find?_stage reservedRows_apart hr hhits
    · exact fun q hq hqhits => (illegalRows_hits hq hqhits).2 hfmt haligned
    · intro q hq hqhits
      obtain ⟨-, -, -, hassigned⟩ := registerRows_hits hq hqhits
      exact Bool.false_ne_true (hreserved.symm.trans hassigned)
  · have hwindow := ramRows_hits hr hhits
    rw [find?_skip_registerWindow (by omega)]
    exact find?_stage ramRows_apart hr hhits
  · obtain ⟨hregister, htx, hrx, hpcm⟩ := (regionOf_eq_none_iff _).1 (unmappedRows_spell hr hspells hwf)
    rw [find?_skip_registerWindow (by omega), find?_skip, ← List.append_nil opcodeRowsUnmapped]
    · exact find?_stage unmappedRows_apart hr hhits
    · intro q hq hqhits
      have hwindow := ramRows_hits hq hqhits
      omega

theorem decode_of_encode {i : Instr} {t : Txn} (hwf : i.wellFormed = true) (h : encode i = some t) : decode t = i := by
  obtain ⟨r, hplace, hspells⟩ := row_spells_of_encode hwf h
  have hfind := find?_of_spells (List.mem_of_getElem? hplace) hspells hwf h
  rw [decode, firstRow_eq_find?, hfind]
  exact hspells.build

theorem encode_eq_none_iff (i : Instr) : encode i = none ↔ i.internal = true := by
  cases i
  case engineStep | accStep | frameClose => exact ⟨fun _ => rfl, fun _ => rfl⟩
  all_goals exact ⟨nofun, nofun⟩

/-- Settles O1, by the instruction's own row and the rows before it. -/
theorem decodeInvertsEncode : Obligations.DecodeInvertsEncode :=
  ⟨fun _ _ => decode_of_encode, encode_eq_none_iff⟩

/-! ### The first row, the instruction it builds and some words -/

theorem append_inj_iff {v w : Nat} {a b : BitVec v} {c d : BitVec w} : a ++ c = b ++ d ↔ a = b ∧ c = d := by
  refine ⟨fun h => ⟨?_, ?_⟩, fun ⟨hac, hbd⟩ => by rw [hac, hbd]⟩
  · simpa only [BitVec.extractLsb'_append_eq_left] using congrArg (BitVec.extractLsb' w v) h
  · simpa only [BitVec.extractLsb'_append_eq_right] using congrArg (BitVec.extractLsb' 0 w) h

/-- A row matches under the 64-bit mask and match of R122 exactly when its two halves do. -/
theorem OpcodeRow.hits_iff_tw {r : OpcodeRow} {t : Txn} : r.hits t = true ↔
    r.fmt = t.fmt ∧ t.tw &&& (r.addrMask ++ r.dataMask) = r.addrMatch ++ r.dataMatch := by
  rw [OpcodeRow.hits_iff, Txn.tw, BitVec.and_append, append_inj_iff]

/-- Settles O3: the rows before the first match do not match. -/
theorem firstMatchingRowDecides : Obligations.FirstMatchingRowDecides := by
  intro t
  obtain ⟨r, -, hhits, hfind, hdecode⟩ := decode_row t
  obtain ⟨-, pre, post, htable, hpre⟩ := List.find?_eq_some_iff_append.1 hfind
  refine ⟨pre, r, post, htable, OpcodeRow.hits_iff_tw.1 hhits, fun q hq hmatch => ?_, hdecode⟩
  simpa [OpcodeRow.hits_iff_tw.2 hmatch] using hpre q hq

/-- No row builds an internal operation (R129). -/
theorem decode_not_internal (t : Txn) : (decode t).internal = false := by
  have hrows : ∀ r ∈ opcodeTable, ∀ a d, (r.build a d).internal = false := by
    rw [← List.forall_iff_forall_mem]
    repeat' apply And.intro
    all_goals exact fun _ _ => rfl
  obtain ⟨r, hmem, -, -, hdecode⟩ := decode_row t
  rw [hdecode, hrows r hmem]

/-- Settles O4: well-formed by the rows before the one taken, and not internal by the row itself. -/
theorem decodedIsWellFormed : Obligations.DecodedIsWellFormed := fun t =>
  ⟨decode_wellFormed t, decode_not_internal t⟩

/-- Settles O5: each word is the encoding of its instruction. -/
theorem specWordsDecode : Obligations.SpecWordsDecode :=
  ⟨decode_of_encode rfl rfl, decode_of_encode rfl rfl, decode_of_encode rfl rfl, decode_of_encode rfl rfl,
    decode_of_encode rfl rfl, decode_of_encode rfl rfl, decode_of_encode rfl rfl, decode_of_encode rfl rfl,
    decode_of_encode rfl rfl, decode_of_encode rfl rfl, decode_of_encode rfl rfl, decode_of_encode rfl rfl⟩

end Sys2Proof

/-!
PROOFS. A poll of a host program (O60): what one turn of the master at a poll does, and the runs made of such turns.
-/

namespace Sys2Proof.Machine

/-! ### The replies of reads -/

/-- A read transaction gets a read's reply and changes nothing else (R91, R101). -/
theorem exec_read_next (s : State) {t : Txn} (hread : readFormat t.fmt = true) :
    ∃ rsp d, exec (decode t) s = .next (s.setReply (.read rsp d)) := by
  obtain ⟨rsp, d, hreply⟩ := (exec_reads ((decode_reads t).trans hread)).reply s
  exact ⟨rsp, d, hreply s.reply⟩

/-- A read transaction gets a read's reply even while `rst` is asserted, when it is the platform's (R330). -/
theorem step_read_reply {s u : State} {t : Txn} {rest : List Event} (hs : s.schedule = .bus t :: rest)
    (hread : readFormat t.fmt = true) (hstep : step s = .next u) : ∃ rsp d, u.reply = .read rsp d := by
  cases hrst : s.rst with
  | false =>
    obtain ⟨rsp, d, hnext⟩ := exec_read_next (s.setSchedule rest) hread
    obtain rfl := Host.Outcome.next.inj ((hnext.symm.trans (step_bus hrst hs).symm).trans hstep)
    exact ⟨rsp, d, rfl⟩
  | true =>
    have hplatform : step s = .next ((s.setSchedule rest).platformReply t.fmt) := by simp [step, fetch, hs, hrst]
    obtain rfl := Host.Outcome.next.inj (hplatform.symm.trans hstep)
    cases hfmt : t.fmt <;> simp_all [readFormat, State.platformReply]

/-- A transaction put in front of the schedule runs in the state without it. -/
theorem step_bus_in_front {s : State} {t : Txn} (hrst : s.rst = false) :
    step (s.setSchedule (.bus t :: s.schedule)) = exec (decode t) s :=
  step_bus (s := s.setSchedule (.bus t :: s.schedule)) hrst rfl

/-- A poll reads one word: a turn of the master is the step of one 32-bit read (R141). -/
theorem HostRun.masterTurn_poll {r : HostRun} {off mask value : Word} {rest : List HostLine}
    (htodo : r.todo = .poll off mask value :: rest) :
    r.masterTurn = HostRun.goOn (r.afterTxn (.poll off mask value) rest ⟨.rd32, off, 0⟩)
      (step (r.modem.setSchedule (.bus ⟨.rd32, off, 0⟩ :: r.modem.schedule))) := by
  simp [HostRun.masterTurn, htodo, HostLine.txn]

/-- The run after a poll has read word `d`. -/
theorem HostRun.afterTxn_poll (r : HostRun) (off mask value : Word) (rest : List HostLine) (t : Txn) {u : State}
    {rsp : Response} {d : Word} (hreply : u.reply = .read rsp d) :
    r.afterTxn (.poll off mask value) rest t u =
      { r with
        modem := u
        todo := if d &&& mask = value then rest else .poll off mask value :: rest
        names := ("t", d) :: r.names
        issued := r.issued ++ [t] } := by
  simp [HostRun.afterTxn, HostLine.overAfter, pollEnds, HostLine.resultName, hreply, Reply.word]

/-- With `rst` deasserted the read takes effect at once, whatever is scheduled behind it (R104). -/
theorem HostRun.masterTurn_poll_of_exec {r : HostRun} {off mask value : Word} {rest : List HostLine}
    (htodo : r.todo = .poll off mask value :: rest) (hrst : r.modem.rst = false) {u : State}
    (hexec : exec (decode ⟨.rd32, off, 0⟩) r.modem = .next u) :
    r.masterTurn = .next (r.afterTxn (.poll off mask value) rest ⟨.rd32, off, 0⟩ u) := by
  rw [masterTurn_poll htodo, step_bus_in_front hrst, hexec]
  rfl

/-! ### Runs at a poll -/

theorem HostRun.turns_cons_eq_next {r q : HostRun} {x : HostTurn} {xs : List HostTurn} :
    r.turns (x :: xs) = .next q ↔ ∃ p, r.turn x = .next p ∧ p.turns xs = .next q := by
  rw [HostRun.turns]
  cases r.turn x <;> simp

/-- A turn of the master at a poll reads a word, and the poll is over exactly when its condition holds (R141). -/
theorem HostRun.masterTurn_poll_next {r q : HostRun} {off mask value : Word} {rest : List HostLine}
    (htodo : r.todo = .poll off mask value :: rest) (h : r.turn .master = .next q) :
    ∃ rsp d, q.modem.reply = .read rsp d ∧
      q.todo = (if d &&& mask = value then rest else .poll off mask value :: rest) ∧
      q.issued = r.issued ++ [⟨.rd32, off, 0⟩] ∧ q.held = r.held := by
  obtain ⟨u, hstep, rfl⟩ := HostRun.goOn_eq_next.1 ((masterTurn_poll htodo).symm.trans h)
  obtain ⟨rsp, d, hreply⟩ := step_read_reply rfl rfl hstep
  refine ⟨rsp, d, hreply, ?_, rfl, rfl⟩
  rw [r.afterTxn_poll off mask value rest _ hreply]

/-- Another event is none of the program's. -/
theorem HostRun.otherTurn_next {r q : HostRun} (h : r.turn .other = .next q) :
    ∃ u, step r.modem = .next u ∧ q = { r with modem := u } := HostRun.goOn_eq_next.1 h

/-- While the condition fails at each of its reads, a poll stays in front, with one read for each turn of the master,
whatever other events fall between them. -/
theorem HostRun.turns_poll {off mask value : Word} {rest : List HostLine} {ts : List HostTurn} {r q : HostRun}
    (htodo : r.todo = .poll off mask value :: rest) (h : r.turns ts = .next q)
    (hfail : ∀ pre post p, ts = pre ++ .master :: post → r.turns (pre ++ [.master]) = .next p →
      ∀ rsp t, p.modem.reply = .read rsp t → t &&& mask ≠ value) :
    q.todo = .poll off mask value :: rest ∧
      q.issued = r.issued ++ List.replicate (ts.count .master) ⟨.rd32, off, 0⟩ ∧ q.held = r.held := by
  induction ts generalizing r with
  | nil =>
    cases h
    exact ⟨htodo, by simp, rfl⟩
  | cons x xs ih =>
    obtain ⟨p, hturn, hturns⟩ := HostRun.turns_cons_eq_next.1 h
    have hrest : ∀ pre post p', xs = pre ++ .master :: post → p.turns (pre ++ [.master]) = .next p' →
        ∀ rsp t, p'.modem.reply = .read rsp t → t &&& mask ≠ value := fun pre post p' hxs hp =>
      hfail (x :: pre) post p' (congrArg (x :: ·) hxs) (HostRun.turns_cons_eq_next.2 ⟨p, hturn, hp⟩)
    cases x with
    | master =>
      obtain ⟨rsp, d, hreply, hptodo, hissued, hheld⟩ := HostRun.masterTurn_poll_next htodo hturn
      have hd : d &&& mask ≠ value :=
        hfail [] xs p rfl (HostRun.turns_cons_eq_next.2 ⟨p, hturn, rfl⟩) rsp d hreply
      obtain ⟨hqtodo, hqissued, hqheld⟩ := ih (hptodo.trans (if_neg hd)) hturns hrest
      refine ⟨hqtodo, ?_, hqheld.trans hheld⟩
      rw [hqissued, hissued, List.count_cons_self, List.replicate_succ, List.append_assoc, List.singleton_append]
    | other =>
      obtain ⟨u, -, rfl⟩ := HostRun.otherTurn_next hturn
      obtain ⟨hqtodo, hqissued, hqheld⟩ := ih (r := { r with modem := u }) htodo hturns hrest
      exact ⟨hqtodo, by simpa using hqissued, hqheld⟩

/-! ### The two polls of U15 -/

/-- A poll on BUSY = 0 ends exactly at an idle engine (R39, R142). -/
theorem Enc.statusWord_and_one (e : Enc) : e.statusWord &&& 1 = 0 ↔ e.busy = false := by
  have hbit := and_one_eq_ite e.statusWord
  rw [e.statusWord_fields.1] at hbit
  cases hbusy : e.busy <;> simp_all

theorem exec_poll_status (s : State) :
    exec (decode ⟨.rd32, 0x104, 0⟩) s = .next (s.setReply (.read .okay s.enc.statusWord)) := by
  rw [decode_of_encode (i := .rdEncStatus) rfl rfl]
  rfl

theorem exec_poll_id (s : State) : exec (decode ⟨.rd32, 0, 0⟩) s = .next (s.setReply (.read .okay 0x4D4F4445)) := by
  rw [decode_of_encode (i := .rdId) rfl rfl]
  rfl

theorem execEngineStep_rst_schedule {s t : State} (h : execEngineStep s = .next t) :
    t.rst = s.rst ∧ t.schedule = s.schedule := by
  obtain ⟨-, rfl⟩ | ⟨-, -, he⟩ := execEngineStep_cases h
  · exact ⟨rfl, rfl⟩
  · rw [he]
    split <;> exact ⟨rfl, rfl⟩

/-- The run is at a poll on ID, with no event but its own reads and the engine's turns to come. -/
structure HostRun.PollsId (r : HostRun) (mask value : Word) (rest : List HostLine) : Prop where
  todo : r.todo = .poll 0 mask value :: rest
  rst : r.modem.rst = false
  schedule : r.modem.schedule = []

theorem HostRun.PollsId.turn {r q : HostRun} {mask value : Word} {rest : List HostLine} (h : r.PollsId mask value rest)
    (hid : 0x4D4F4445 &&& mask ≠ value) {x : HostTurn} (hturn : r.turn x = .next q) : q.PollsId mask value rest := by
  cases x with
  | master =>
    have hread := HostRun.masterTurn_poll_of_exec h.todo h.rst (exec_poll_id r.modem)
    obtain rfl := Host.Outcome.next.inj (hread.symm.trans hturn)
    rw [r.afterTxn_poll 0 mask value rest _ rfl, if_neg hid]
    exact ⟨rfl, h.rst, h.schedule⟩
  | other =>
    obtain ⟨u, hstep, rfl⟩ := HostRun.otherTurn_next hturn
    rw [step_unscheduled h.rst h.schedule] at hstep
    split at hstep
    · obtain ⟨hrst, hschedule⟩ := execEngineStep_rst_schedule hstep
      exact ⟨h.todo, hrst.trans h.rst, hschedule.trans h.schedule⟩
    · obtain rfl := Host.Outcome.next.inj hstep
      exact h

theorem HostRun.PollsId.turns {r q : HostRun} {mask value : Word} {rest : List HostLine}
    (h : r.PollsId mask value rest) (hid : 0x4D4F4445 &&& mask ≠ value) {ts : List HostTurn}
    (hturns : r.turns ts = .next q) : q.PollsId mask value rest := by
  induction ts generalizing r with
  | nil =>
    cases hturns
    exact h
  | cons x xs ih =>
    obtain ⟨p, hturn, hrest⟩ := HostRun.turns_cons_eq_next.1 hturns
    exact ih (h.turn hid hturn) hrest

/-- Settles O60: one read at a turn of the master, the run until the condition holds by induction on the turns, and
the poll on ID by what each turn keeps. -/
theorem pollRepeatsUntilCondition : Obligations.PollRepeatsUntilCondition := by
  intro r off mask value rest htodo
  refine ⟨fun hrst => ?_, fun ts q => HostRun.turns_poll htodo, ?_⟩
  · obtain ⟨rsp, d, hexec⟩ := exec_read_next r.modem (t := ⟨.rd32, off, 0⟩) rfl
    refine ⟨rsp, d, _, rfl, hexec, ?_, ?_⟩
    · exact (HostRun.masterTurn_poll_of_exec htodo hrst hexec).trans
        (congrArg Host.Outcome.next (r.afterTxn_poll off mask value rest _ rfl))
    · rintro rfl rfl rfl
      have hreply := congrArg State.reply (Host.Outcome.next.inj (hexec.symm.trans (exec_poll_status r.modem)))
      obtain ⟨-, rfl⟩ := Reply.read.inj hreply
      exact r.modem.enc.statusWord_and_one
  · rintro rfl hid hrst hschedule ts q hturns
    exact (HostRun.PollsId.turns ⟨htodo, hrst, hschedule⟩ hid hturns).todo

end Sys2Proof.Machine

/-!
PROOFS. The accesses of the RAM windows (O23, O24): the bytes of a legal access, and the bus error of any other.
-/

namespace Sys2Proof.Machine

/-! ### One access of a RAM -/

/-- A write that the lock lets through (R340). -/
theorem State.lockedWrite_of_idle {s : State} (hidle : s.enc.busy = false) (f : State → State) :
    s.lockedWrite f = (f s).replyOkay :=
  if_neg (by simp [hidle])

section ramAccess

variable {s : State} {r : Ram} {w : Width} {j : Nat}

theorem ramRead_of_legal (hlegal : j % w.bytes = 0 ∧ j + w.bytes ≤ r.bytes s.params) :
    ramRead r w j s = .next { s with reply := .read .okay (s.readLE (r.base + j) w.bytes) } :=
  if_pos (ramAccessOk_iff.2 hlegal)

theorem ramRead_of_illegal (hbad : ¬(j % w.bytes = 0 ∧ j + w.bytes ≤ r.bytes s.params)) :
    ramRead r w j s = .next { s with reply := .read .error 0 } :=
  if_neg (mt ramAccessOk_iff.1 hbad)

theorem ramWrite_of_legal (v : Word) (hlegal : j % w.bytes = 0 ∧ j + w.bytes ≤ r.bytes s.params)
    (hidle : s.enc.busy = false) :
    ramWrite r w j v s = .next { s with mem := s.mem.writeLE (r.base + j) v w.bytes, reply := .write .okay } :=
  (if_pos (ramAccessOk_iff.2 hlegal)).trans (congrArg Host.Outcome.next (s.lockedWrite_of_idle hidle _))

/-- The bus error comes before the lock, so it does not ask for an idle engine (R161, R162). -/
theorem ramWrite_of_illegal (v : Word) (hbad : ¬(j % w.bytes = 0 ∧ j + w.bytes ≤ r.bytes s.params)) :
    ramWrite r w j v s = .next { s with reply := .write .error } :=
  if_neg (mt ramAccessOk_iff.1 hbad)

end ramAccess

/-! ### The bytes read and written -/

theorem Width.bytes_le_four (w : Width) : w.bytes ≤ 4 := by
  cases w <;> decide

/-- Byte k of a value is what a read finds at offset k of its write (R97). -/
theorem State.readByte_writeLE_inside (s : State) (a : Nat) (v : Word) {n k : Nat} (hk : k < n) :
    State.readByte { s with mem := s.mem.writeLE a v n } (a + k) = v.extractLsb' (8 * k) 8 :=
  State.readByte_of_lookup ((s.mem.lookup_writeLE_byte a v n k hk).trans
    (congrArg some BitVec.setWidth_ushiftRight_eq_extractLsb))

theorem State.readByte_writeLE_outside (s : State) (a : Nat) (v : Word) {n c : Nat} (hc : c < a ∨ a + n ≤ c) :
    State.readByte { s with mem := s.mem.writeLE a v n } c = s.readByte c :=
  State.readByte_congr (s.mem.lookup_writeLE_outside a v n c hc) rfl

/-! ### Settling the accesses -/

/-- Settles O23: each of the nine instructions is `ramRead` of its RAM and width. -/
theorem ramReadsLittleEndian : Obligations.RamReadsLittleEndian := by
  intro s i base off n depth hread
  have hram : ∃ r w, exec i s = ramRead r w off s ∧ base = r.base ∧ n = w.bytes ∧ depth = r.bytes s.params := by
    obtain ⟨j, rfl, rfl, rfl, rfl, rfl⟩ | ⟨j, rfl, rfl, rfl, rfl, rfl⟩ | ⟨j, rfl, rfl, rfl, rfl, rfl⟩ |
      ⟨j, rfl, rfl, rfl, rfl, rfl⟩ | ⟨j, rfl, rfl, rfl, rfl, rfl⟩ | ⟨j, rfl, rfl, rfl, rfl, rfl⟩ |
      ⟨j, rfl, rfl, rfl, rfl, rfl⟩ | ⟨j, rfl, rfl, rfl, rfl, rfl⟩ | ⟨j, rfl, rfl, rfl, rfl, rfl⟩ := hread
    · exact ⟨.tx, .w8, rfl, rfl, rfl, rfl⟩
    · exact ⟨.tx, .w16, rfl, rfl, rfl, rfl⟩
    · exact ⟨.tx, .w32, rfl, rfl, rfl, rfl⟩
    · exact ⟨.rx, .w8, rfl, rfl, rfl, rfl⟩
    · exact ⟨.rx, .w16, rfl, rfl, rfl, rfl⟩
    · exact ⟨.rx, .w32, rfl, rfl, rfl, rfl⟩
    · exact ⟨.pcm, .w8, rfl, rfl, rfl, rfl⟩
    · exact ⟨.pcm, .w16, rfl, rfl, rfl, rfl⟩
    · exact ⟨.pcm, .w32, rfl, rfl, rfl, rfl⟩
  obtain ⟨r, w, hexec, rfl, rfl, rfl⟩ := hram
  split
  next hlegal =>
    exact ⟨_, hexec.trans (ramRead_of_legal hlegal), s.readLE_lt _ _ w.bytes_le_four,
      fun k hk => s.readLE_byte _ _ k w.bytes_le_four hk⟩
  next hbad => exact hexec.trans (ramRead_of_illegal hbad)

/-- Settles O24: each of the six instructions is `ramWrite` of its RAM and width. -/
theorem ramWritesSetTheirBytes : Obligations.RamWritesSetTheirBytes := by
  intro s i base off n depth v hwrite
  have hram : ∃ r w, exec i s = ramWrite r w off v s ∧ base = r.base ∧ n = w.bytes ∧ depth = r.bytes s.params := by
    obtain ⟨j, d, rfl, rfl, rfl, rfl, rfl, rfl⟩ | ⟨j, d, rfl, rfl, rfl, rfl, rfl, rfl⟩ |
      ⟨j, d, rfl, rfl, rfl, rfl, rfl, rfl⟩ | ⟨j, d, rfl, rfl, rfl, rfl, rfl, rfl⟩ |
      ⟨j, d, rfl, rfl, rfl, rfl, rfl, rfl⟩ | ⟨j, d, rfl, rfl, rfl, rfl, rfl, rfl⟩ := hwrite
    · exact ⟨.tx, .w8, rfl, rfl, rfl, rfl⟩
    · exact ⟨.tx, .w16, rfl, rfl, rfl, rfl⟩
    · exact ⟨.tx, .w32, rfl, rfl, rfl, rfl⟩
    · exact ⟨.pcm, .w8, rfl, rfl, rfl, rfl⟩
    · exact ⟨.pcm, .w16, rfl, rfl, rfl, rfl⟩
    · exact ⟨.pcm, .w32, rfl, rfl, rfl, rfl⟩
  obtain ⟨r, w, hexec, rfl, rfl, rfl⟩ := hram
  split
  next hlegal =>
    exact fun hidle => ⟨_, hexec.trans (ramWrite_of_legal v hlegal hidle),
      fun k hk => s.readByte_writeLE_inside _ v hk, fun a ha => s.readByte_writeLE_outside _ v ha⟩
  next hbad => exact hexec.trans (ramWrite_of_illegal v hbad)

end Sys2Proof.Machine

/-!
PROOFS. The accesses that always get the bus error (O11) and the register writes (O16 to O20).
-/

namespace Sys2Proof

/-- Setting a register of a bank changes that one register (R112). -/
theorem Bank.set_changes_one {α : Type} (b : Bank α) (i : Fin 8) (x : α) :
    (b.set i x).get i = x ∧ ∀ j, j ≠ i → (b.set i x).get j = b.get j :=
  ⟨b.get_set_same i x, fun _ hj => b.get_set_ne x hj⟩

namespace Machine

/-! ### What a refused or ignored access answers -/

theorem illegalRead_eq (s : State) : illegalRead s = .next { s with reply := .read .error 0 } := rfl

theorem illegalWrite_eq (s : State) : illegalWrite s = .next { s with reply := .write .error } := rfl

theorem rxWindowWrite_eq (s : State) : rxWindowWrite s = .next { s with reply := .write .error } := rfl

theorem ignoreWrite_eq (s : State) : ignoreWrite s = .next { s with reply := .write .okay } := rfl

/-- Settles O11: the eight BUSERR reads, the eight BUSERR writes and the three writes of the RX window. -/
theorem illegalAccessesGetBusError : Obligations.IllegalAccessesGetBusError := by
  refine fun s => ⟨fun i hread => ?_, fun i hwrite => ?_⟩
  · obtain ⟨_, rfl⟩ | ⟨_, rfl⟩ | ⟨_, rfl⟩ | ⟨_, rfl⟩ | ⟨_, rfl⟩ | ⟨_, rfl⟩ | ⟨_, rfl⟩ | ⟨_, rfl⟩ := hread
    all_goals exact illegalRead_eq s
  · obtain ⟨_, _, rfl⟩ | ⟨_, _, rfl⟩ | ⟨_, _, rfl⟩ | ⟨_, _, rfl⟩ | ⟨_, _, rfl⟩ | ⟨_, _, rfl⟩ | ⟨_, _, rfl⟩ |
      ⟨_, _, rfl⟩ | ⟨_, _, rfl⟩ | ⟨_, _, rfl⟩ | ⟨_, _, rfl⟩ := hwrite
    iterate 8 exact illegalWrite_eq s
    all_goals exact rxWindowWrite_eq s

/-- Settles O16: a read-only or reserved register, or a command register with no command. -/
theorem ignoredWritesChangeNothing : Obligations.IgnoredWritesChangeNothing := by
  rintro s d i (hi | ⟨r, rfl⟩)
  · fin_cases hi
    all_goals exact ignoreWrite_eq s
  · exact ignoreWrite_eq s

/-- Settles O17: each field is the bits R123 names. -/
theorem unlockedWritesStoreFields : Obligations.UnlockedWritesStoreFields :=
  fun _ _ => ⟨rfl, rfl, rfl⟩

/-- Settles O18, by `Bank.set_changes_one`. -/
theorem indexedDetectorWrites : Obligations.IndexedDetectorWrites := fun s d i =>
  ⟨⟨_, rfl, Bank.set_changes_one s.det.level i (halfField d)⟩,
    ⟨_, rfl, Bank.set_changes_one s.det.offset i (halfField d)⟩⟩

/-! ### Flags -/

theorem irqField_getLsbD (d : Word) {b : Nat} (hb : b < 5) : (irqField d).getLsbD b = d.getLsbD b := by
  simp [irqField, hb]

/-- Writing 1 to a flag clears it, writing 0 keeps it. -/
theorem and_not_eq_ite (flag written : Bool) : (flag && !written) = if written then false else flag := by
  cases written <;> simp

/-- Settles O19: the interrupt registers bit by bit, WERR and LOST by `and_not_eq_ite`. -/
theorem flagRegisterWrites : Obligations.FlagRegisterWrites := by
  intro s d
  refine ⟨⟨s.irqStatus &&& ~~~irqField d, rfl, fun b hb => ?_⟩, ⟨_, rfl, fun b hb => irqField_getLsbD d hb⟩, ?_, ?_⟩
  · rw [BitVec.getLsbD_and, BitVec.getLsbD_not, irqField_getLsbD d hb, decide_eq_true hb, Bool.true_and]
  · rw [← and_not_eq_ite]
    rfl
  · rw [← and_not_eq_ite]
    rfl

/-! ### The encoder configuration -/

/-- A configuration write of an idle encoder stores its field (R159). -/
theorem configWrite_of_idle {s : State} (hidle : s.enc.busy = false) (f : Enc → Enc) :
    (.next (s.lockedWrite fun t => t.setEnc (f t.enc)) : StepResult) =
      .next { s with enc := f s.enc, reply := .write .okay } :=
  congrArg Host.Outcome.next (s.lockedWrite_of_idle hidle _)

/-- AMP is the low half of the data, at most 32767 (R41). -/
theorem ampField_eq (d : Word) : ampField d = BitVec.ofNat 16 (min (d.toNat % 65536) 32767) := by
  have hhalf : (halfField d).toNat = d.toNat % 65536 := by simp [halfField]
  rw [← hhalf, ampField]
  split
  next hbig => rw [min_eq_right hbig.le]; rfl
  next hsmall => rw [min_eq_left (by omega), BitVec.ofNat_toNat, BitVec.setWidth_eq]

/-- Settles O20: each is a configuration write of an idle encoder. -/
theorem encoderConfigWrites : Obligations.EncoderConfigWrites := by
  intro s d hidle
  refine ⟨configWrite_of_idle hidle fun e => { e with crcEn := encCrcEnField d },
    configWrite_of_idle hidle fun e => { e with spw := spwField d }, ?_,
    configWrite_of_idle hidle fun e => { e with startOff := d },
    configWrite_of_idle hidle fun e => { e with len := halfField d },
    fun k => ⟨s.enc.inc.set k d, configWrite_of_idle hidle fun e => { e with inc := e.inc.set k d },
      Bank.set_changes_one s.enc.inc k d⟩⟩
  rw [← ampField_eq]
  exact configWrite_of_idle hidle fun e => { e with amp := ampField d }

end Machine

end Sys2Proof

/-!
PROOFS. Steps never stop (O59), ENGINE_STEP when idle or outside PCM RAM (O29) and START (O26).
-/

namespace Sys2Proof.Machine

open Sys2Proof.Config

/-! ### No step stops -/

/-- In a state of the invariant the next sample of a render under way lies inside PCM RAM (R177). -/
theorem State.Inv.sample_in_pcm {s : State} (h : s.Inv) (hb : s.enc.busy = true) :
    s.enc.startOff.toNat + s.enc.pos.toNat < s.params.pcmDepth := by
  have hspan := h.enc_inv.busy_span hb
  have hpos := h.enc_inv.busy_pos hb
  omega

/-- No operation of ENC's side stops while the next sample of a render under way lies inside PCM RAM. -/
theorem EncOp.next {g : State → StepResult} (hg : EncOp g) {s : State}
    (h : s.enc.busy = true → s.enc.startOff.toNat + s.enc.pos.toNat < s.params.pcmDepth) : ∃ t, g s = .next t := by
  cases hg with
  | config | start | clearWerr => exact ⟨_, rfl⟩
  | ram r w j v =>
    obtain ⟨-, he⟩ | ⟨-, -, he⟩ | ⟨-, -, he⟩ := ramWrite_cases r w j v s
    all_goals exact ⟨_, he⟩
  | engine => exact execEngineStep_next h

/-- Every instruction completes in a state of the invariant. -/
theorem State.Inv.exec_next {s : State} (h : s.Inv) (i : Instr) : ∃ t, exec i s = .next t := by
  cases hi : i.side with
  | quiet => exact (exec_quiet hi s).imp fun _ ht => ht.1
  | enc => exact (exec_enc hi).next h.sample_in_pcm
  | rx => exact exec_rx_next hi s
  | reset =>
    obtain ⟨d, rfl⟩ := eq_srst_of_side hi
    exact ⟨_, exec_srst d s⟩

/-- An instruction runs in the state it is fetched in, but for the schedule (R104). -/
theorem fetch_some {s t : State} {i : Instr} (h : fetch s = (some i, t)) : ∃ es, t = s.setSchedule es := by
  unfold fetch at h
  split at h
  · exact ⟨s.schedule, (Prod.mk.inj h).2.symm⟩
  · next tx rest _ =>
    split at h
    · cases h
    · exact ⟨rest, (Prod.mk.inj h).2.symm⟩
  · next rest _ => exact ⟨rest, (Prod.mk.inj h).2.symm⟩
  · cases h
  · cases h

/-- Settles O59: a step runs no instruction, or one that completes in the invariant. -/
theorem invariantNeverStops : Obligations.InvariantNeverStops := by
  intro s h
  unfold State.Steps step
  split
  · next i t hfetch =>
    obtain ⟨es, rfl⟩ := fetch_some hfetch
    exact (h.setSchedule es).exec_next i
  · exact ⟨_, rfl⟩

/-! ### ENGINE_STEP of an idle engine, and outside PCM RAM -/

/-- Settles O29, by the two tests of ENGINE_STEP. -/
theorem engineStepIdleOrOutside : Obligations.EngineStepIdleOrOutside := by
  intro s
  refine ⟨fun hidle => ?_, fun hb hout => ?_⟩
  · exact if_neg (by simp [hidle])
  · exact (if_pos hb).trans (if_pos hout)

/-! ### START -/

/-- NSAMP as R175 and R176 count it: SPW samples for each of two words per byte of the frame. -/
theorem Enc.nsamp_eq (e : Enc) : e.nsamp = e.spw.toNat * 2 * (e.len.toNat + if e.crcEn then 1 else 0) := by
  cases hc : e.crcEn <;> simp [Enc.nsamp, Enc.wordCount, hc, mul_assoc]

/-- A bank lists its registers in order of their numbers. -/
theorem toList_eq_ofFn {α : Type} (b : Bank α) : b.toList = List.ofFn b.get := rfl

/-- The check of the increments fails exactly when two tones have the same one (R171). -/
theorem incDistinct_iff (b : Bank Word) : incDistinct b = true ↔ ¬∃ j k : Fin 8, j ≠ k ∧ b.get j = b.get k := by
  rw [incDistinct, decide_eq_true_iff, toList_eq_ofFn, List.nodup_ofFn]
  simp only [Function.Injective, not_exists, not_and]
  exact ⟨fun h j k hne he => hne (h he), fun h j k he => by_contra fun hne => h j k hne he⟩

/-- A START that fails the configuration check (R171, R178). -/
theorem State.startWith_of_cause {s : State} {e : Enc} {cause : CfgCause} (hcause : cfgCheck s.params e = cause)
    (hne : cause ≠ .none) :
    s.startWith e = { s with
      enc := { e with cfgCause := cause, errCfg := true, errBuf := false }, irqStatus := s.irqStatus ||| 0b00010 } := by
  obtain ⟨-, he⟩ | ⟨hc, -⟩ | ⟨hc, -⟩ | ⟨hc, -⟩ := s.startWith_cases e
  · rw [he, hcause]
    rfl
  all_goals exact absurd (hcause.symm.trans hc) hne

/-- The buffer check is exact (R177). -/
theorem bufTooSmall_iff {p : Params} {e : Enc} :
    bufTooSmall p e = true ↔ p.pcmDepth < e.startOff.toNat + e.nsamp :=
  decide_eq_true_iff

/-- A START that passes the configuration check is decided by the buffer check and by NSAMP (R177, R178). -/
theorem State.startWith_of_legal {s : State} {e : Enc} (hlegal : cfgCheck s.params e = .none) :
    s.startWith e =
      if s.params.pcmDepth < e.startOff.toNat + e.nsamp then
        { s with
          enc := { e with cfgCause := .none, errCfg := false, errBuf := true }
          irqStatus := s.irqStatus ||| 0b00010 }
      else if e.nsamp = 0 then
        { s with
          enc := { e with cfgCause := .none, errCfg := false, errBuf := false, pos := 0 }
          irqStatus := s.irqStatus ||| 0b00001 }
      else
        { s with enc := { e with cfgCause := .none, errCfg := false, errBuf := false, pos := 0, busy := true } } := by
  obtain ⟨hne, -⟩ | ⟨-, hspan, he⟩ | ⟨-, hspan, hzero, he⟩ | ⟨-, hspan, hsome, he⟩ := s.startWith_cases e
  · exact absurd hlegal hne
  · rw [he, if_pos (bufTooSmall_iff.1 hspan)]
    rfl
  · rw [he, if_neg (mt bufTooSmall_iff.2 (by simp [hspan])), if_pos hzero]
    rfl
  · rw [he, if_neg (mt bufTooSmall_iff.2 (by simp [hspan])), if_neg hsome]
    rfl

/-- Settles O26: the lock, then the configuration check cause by cause, then the checks of a legal START. -/
theorem encStartChecksInOrder : Obligations.EncStartChecksInOrder := by
  intro s d e nsamp
  have hnsamp : e.nsamp = nsamp := e.nsamp_eq
  refine congrArg Host.Outcome.next ?_
  split
  next hb => exact if_pos hb
  next hidle =>
    rw [State.lockedWrite_of_idle (by simpa using hidle)]
    change (s.startWith e).replyOkay = _
    split
    next hspw =>
      rw [State.startWith_of_cause (cause := .spwZero) (if_pos hspw) (by decide)]
      rfl
    next hspw =>
      split
      next hlen =>
        rw [State.startWith_of_cause (cause := .lenTooLong) ((if_neg hspw).trans (if_pos hlen)) (by decide)]
        rfl
      next hlen =>
        have hcheck : cfgCheck s.params e = if incDistinct e.inc then .none else .incNotDistinct :=
          (if_neg hspw).trans (if_neg hlen)
        split
        next hinc =>
          have hcause : cfgCheck s.params e = .incNotDistinct :=
            hcheck.trans (if_neg fun hdistinct => (incDistinct_iff _).1 hdistinct hinc)
          rw [State.startWith_of_cause hcause (by decide)]
          rfl
        next hinc =>
          have hlegal : cfgCheck s.params e = .none := hcheck.trans (if_pos ((incDistinct_iff _).2 hinc))
          rw [State.startWith_of_legal hlegal, hnsamp, apply_ite State.replyOkay, apply_ite State.replyOkay]
          rfl

end Sys2Proof.Machine

/-!
PROOFS. A sample of a written payload (O27), and the turns of the engine that finish a render (O33, O34).
-/

namespace Sys2Proof.Machine

open Sys2Proof.Config

/-! ### The frame of a written payload -/

/-- A byte string all of whose bytes are written is what the memory holds there. -/
theorem Memory.writtenBytes_eq_some {m : Memory} {a : Nat} {bs : List Byte}
    (h : ∀ k, (hk : k < bs.length) → m.lookup (a + k) = some bs[k]) : m.writtenBytes a bs.length = some bs := by
  induction bs generalizing a with
  | nil => rfl
  | cons b bs ih =>
    have hfirst : m.lookup a = some b := h 0 (Nat.succ_pos _)
    have hrest : m.writtenBytes (a + 1) bs.length = some bs := ih fun k hk => by
      rw [add_assoc, add_comm 1 k]
      exact h (k + 1) (Nat.succ_lt_succ hk)
    rw [List.length_cons, Memory.writtenBytes, hfirst, hrest]

/-- The frame has LEN bytes, and one more with the trailer (R175). -/
theorem length_renderFrame (c : Bool) (bs : List Byte) :
    (renderFrame c bs).length = bs.length + if c then 1 else 0 := by
  cases c <;> simp [renderFrame]

/-- The frame begins with the payload (R175). -/
theorem renderFrame_getD_of_lt (c : Bool) {bs : List Byte} {k : Nat} (hk : k < bs.length) :
    (renderFrame c bs).getD k 0 = bs[k] := by
  cases c <;> simp [renderFrame, List.getElem?_append_left hk, hk]

/-- Byte `k` of the frame of a written payload (R175). -/
theorem State.Payload.frameByte {s : State} {bs : List Byte} (h : s.Payload bs) {k : Nat}
    (hk : k < (renderFrame s.enc.crcEn bs).length) :
    s.frameByte k = some ((renderFrame s.enc.crcEn bs).getD k 0) := by
  obtain ⟨hlen, hbytes⟩ := h
  rw [State.frameByte, ← hlen]
  by_cases hpay : k < bs.length
  · rw [if_pos hpay, renderFrame_getD_of_lt _ hpay]
    exact hbytes k hpay
  · cases hc : s.enc.crcEn with
    | false =>
      rw [hc, length_renderFrame] at hk
      exact absurd hk hpay
    | true =>
      rw [hc, length_renderFrame, if_pos rfl] at hk
      obtain rfl : k = bs.length := by omega
      rw [if_neg hpay, Memory.writtenBytes_eq_some (a := Ram.tx.base) hbytes]
      simp [renderFrame]

theorem highSymbol_toNat (b : Byte) : (highSymbol b).toNat = b.toNat / 16 := by
  have := b.isLt
  simp [highSymbol, Nat.shiftRight_eq_div_pow]
  omega

theorem lowSymbol_toNat (b : Byte) : (lowSymbol b).toNat = b.toNat % 16 := by
  simp [lowSymbol]

/-- The symbol of a word of the frame of a written payload (R175). -/
theorem State.Payload.wordSymbol {s : State} {bs : List Byte} (h : s.Payload bs) {w : Nat}
    (hw : w / 2 < (renderFrame s.enc.crcEn bs).length) :
    ∃ x, s.wordSymbol w = some x ∧ x.toNat = frameSymbol (renderFrame s.enc.crcEn bs) w := by
  refine ⟨_, congrArg (Option.map _) (h.frameByte hw), ?_⟩
  rw [frameSymbol]
  split
  · exact highSymbol_toNat _
  · exact lowSymbol_toNat _

/-- The sample function of R181 on a written payload is the waveform of its frame. -/
theorem State.Payload.renderSample {s : State} {bs : List Byte} (h : s.Payload bs) {j : Nat}
    (hj : j / s.enc.spw.toNat / 2 < (renderFrame s.enc.crcEn bs).length) :
    s.renderSample j =
      some (BitVec.ofInt 16 (waveform s.params.sine s.enc (renderFrame s.enc.crcEn bs) j)) := by
  obtain ⟨x, hx, hsymbol⟩ := h.wordSymbol hj
  rw [State.renderSample, hx, Option.map_some, waveform, ← hsymbol]
  rfl

/-- ENGINE_STEP writes the waveform's sample of a written payload, and draws nothing (R181, R182). -/
theorem State.Payload.engineSample {s : State} {bs : List Byte} (h : s.Payload bs)
    (hj : s.enc.pos.toNat / s.enc.spw.toNat / 2 < (renderFrame s.enc.crcEn bs).length) :
    s.engineSample =
        BitVec.ofInt 16 (waveform s.params.sine s.enc (renderFrame s.enc.crcEn bs) s.enc.pos.toNat) ∧
      s.drawsAfterSample = s.draws := by
  simp only [State.engineSample, State.drawsAfterSample, h.renderSample hj, and_self]

/-- Settles O27: the sample has its value in the waveform, so nothing is drawn. -/
theorem engineStepWritesSample : Obligations.EngineStepWritesSample := by
  intro s bs hb hpay hi hframe j last
  obtain ⟨hsample, hdraws⟩ := hpay.engineSample hframe
  have hstep := execEngineStep_sample hb hi
  rw [hsample, hdraws] at hstep
  exact ⟨_, hstep, pcmSample_writeLE s _ _, fun a ha => Memory.lookup_writeLE_outside _ _ _ _ _ ha⟩

/-! ### The turns of the engine -/

/-- One turn more is ENGINE_STEP in the state the turns lead to. -/
theorem engineTurns_succ {n : Nat} {s t : State} (h : engineTurns n s = .next t) :
    engineTurns (n + 1) s = exec .engineStep t := by
  induction n generalizing s with
  | zero =>
    obtain rfl := Host.Outcome.next.inj h
    rw [engineTurns]
    cases exec .engineStep s <;> rfl
  | succ n ih =>
    rw [engineTurns] at h ⊢
    split at h
    · exact ih h
    · cases h
    · cases h

/-- `t` follows from `s` by `n` samples of the render under way: they are counted, the last of the render clears BUSY
and sets ENC_DONE, the samples of a written payload are the waveform's, and nothing else changes but the draws
(R181, R182, R190). -/
structure Renders (n : Nat) (s t : State) : Prop where
  enc : t.enc = { s.enc with
    pos := BitVec.ofNat 32 (s.enc.pos.toNat + n), busy := !decide (s.enc.pos.toNat + n = s.enc.nsamp) }
  irqStatus : t.irqStatus = if s.enc.pos.toNat + n = s.enc.nsamp then s.irqStatus ||| 0b00001 else s.irqStatus
  outside : SameOutsideEncoder s t
  reply : t.reply = s.reply
  bytes : ∀ a, a < 0x100000 + 2 * (s.enc.startOff.toNat + s.enc.pos.toNat) ∨
    0x100000 + 2 * (s.enc.startOff.toNat + s.enc.pos.toNat + n) ≤ a → t.mem.lookup a = s.mem.lookup a
  samples : ∀ bs, s.Payload bs → ∀ j, s.enc.pos.toNat ≤ j → j < s.enc.pos.toNat + n →
    t.pcmSample (s.enc.startOff.toNat + j) =
      BitVec.ofInt 16 (waveform s.params.sine s.enc (renderFrame s.enc.crcEn bs) j)

theorem SameOutsideEncoder.trans {s t u : State} (h : SameOutsideEncoder s t) (h' : SameOutsideEncoder t u) :
    SameOutsideEncoder s u := by
  obtain ⟨irqEnable, det, acc, rst, params, schedule, powerCycles⟩ := h
  obtain ⟨irqEnable', det', acc', rst', params', schedule', powerCycles'⟩ := h'
  exact ⟨irqEnable'.trans irqEnable, det'.trans det, acc'.trans acc, rst'.trans rst, params'.trans params,
    schedule'.trans schedule, powerCycles'.trans powerCycles⟩

theorem SameOutsideEncoder.params_eq {s t : State} (h : SameOutsideEncoder s t) : t.params = s.params := by
  obtain ⟨-, -, -, -, params, -, -⟩ := h
  exact params

theorem SameOutsideEncoder.powerCycles_eq {s t : State} (h : SameOutsideEncoder s t) :
    t.powerCycles = s.powerCycles := by
  obtain ⟨-, -, -, -, -, -, powerCycles⟩ := h
  exact powerCycles

/-- A sample of PCM RAM depends on its two bytes and the power cycle (R95). -/
theorem State.pcmSample_congr {s t : State} {i : Nat} (hp : t.powerCycles = s.powerCycles)
    (hm : ∀ a, 0x100000 + 2 * i ≤ a → a < 0x100000 + 2 * i + 2 → t.mem.lookup a = s.mem.lookup a) :
    t.pcmSample i = s.pcmSample i :=
  congrArg₂ (· ++ ·) (State.readByte_congr (hm _ (by omega) (by omega)) hp)
    (State.readByte_congr (hm _ (by omega) (by omega)) hp)

/-- In a state of the invariant no sample count up to NSAMP wraps ENC_POS around (R13, R177). -/
theorem State.Inv.nsamp_lt {s : State} (h : s.Inv) (hb : s.enc.busy = true) : s.enc.nsamp < 2 ^ 32 := by
  have hdepths := (Params.ok_iff _).1 h.params_ok
  have hspan := h.enc_inv.busy_span hb
  omega

/-- Every sample before NSAMP is of a byte of the frame (R175, R176). -/
theorem State.Payload.sample_in_frame {s : State} {bs : List Byte} (h : s.Payload bs) {j : Nat}
    (hj : j < s.enc.nsamp) : j / s.enc.spw.toNat / 2 < (renderFrame s.enc.crcEn bs).length := by
  obtain ⟨hlen, -⟩ := h
  rw [length_renderFrame, hlen, Nat.div_div_eq_div_mul]
  exact Nat.div_lt_of_lt_mul (by rwa [← Enc.nsamp_eq])

/-- No sample yet. -/
theorem Renders.zero {s : State} (h : s.Inv) (hb : s.enc.busy = true) : Renders 0 s s where
  enc := by
    have hleft : s.enc.pos.toNat ≠ s.enc.nsamp := (h.enc_inv.busy_pos hb).ne
    simp [← hb, hleft]
  irqStatus := (if_neg (h.enc_inv.busy_pos hb).ne).symm
  outside := ⟨rfl, rfl, rfl, rfl, rfl, rfl, rfl⟩
  reply := rfl
  bytes := fun _ _ => rfl
  samples := fun _ _ _ _ _ => by omega

/-- A turn of the engine writes the next sample of the render under way. -/
theorem State.Inv.engineStep_renders {s : State} (h : s.Inv) (hb : s.enc.busy = true) :
    ∃ t, exec .engineStep s = .next t ∧ Renders 1 s t := by
  have hpos := h.enc_inv.busy_pos hb
  have hlt := h.nsamp_lt hb
  have hnext : s.enc.pos + 1 = BitVec.ofNat 32 (s.enc.pos.toNat + 1) := by
    simp [BitVec.ofNat_add]
  have htoNat : (BitVec.ofNat 32 (s.enc.pos.toNat + 1)).toNat = s.enc.pos.toNat + 1 := by
    rw [BitVec.toNat_ofNat]
    omega
  have hstep := execEngineStep_sample hb (h.sample_in_pcm hb)
  simp only [hnext, htoNat, ← Enc.nsamp_eq] at hstep
  refine ⟨_, hstep, rfl, rfl, ⟨rfl, rfl, rfl, rfl, rfl, rfl, rfl⟩, rfl,
    fun a ha => Memory.lookup_writeLE_outside _ _ _ _ _ ha, fun bs hpay j hj hj' => ?_⟩
  obtain rfl : s.enc.pos.toNat = j := by omega
  rw [← (hpay.engineSample (hpay.sample_in_frame hpos)).1]
  exact pcmSample_writeLE s _ _

section Renders

variable {n : Nat} {s t u : State}

/-- The render keeps its payload, which lies below PCM RAM (R92, R182). -/
theorem Renders.payload (h : Renders n s t) (hlen : s.enc.len.toNat ≤ 4096) {bs : List Byte} (hpay : s.Payload bs) :
    t.Payload bs := by
  obtain ⟨hbs, hbytes⟩ := hpay
  refine ⟨by rw [h.enc, hbs], fun k hk => ?_⟩
  rw [h.bytes _ (.inl (by omega)), hbytes k hk]

/-- A sample more. -/
theorem Renders.succ (h : Renders n s t) (h' : Renders 1 t u) (hlen : s.enc.len.toNat ≤ 4096)
    (hleft : s.enc.pos.toNat + n < s.enc.nsamp) (hlt : s.enc.nsamp < 2 ^ 32) : Renders (n + 1) s u := by
  have hpos : t.enc.pos.toNat = s.enc.pos.toNat + n := by
    rw [h.enc, BitVec.toNat_ofNat]
    omega
  have hnsamp : t.enc.nsamp = s.enc.nsamp := by rw [h.enc]; rfl
  have hstart : t.enc.startOff = s.enc.startOff := by rw [h.enc]
  have hirq : t.irqStatus = s.irqStatus := h.irqStatus.trans (if_neg hleft.ne)
  have hbytes := h'.bytes
  rw [hpos, hstart] at hbytes
  constructor
  case enc => rw [h'.enc, hpos, hnsamp, h.enc, add_assoc]
  case irqStatus => rw [h'.irqStatus, hpos, hnsamp, hirq, add_assoc]
  case outside => exact h.outside.trans h'.outside
  case reply => exact h'.reply.trans h.reply
  case bytes => exact fun a ha => (hbytes a (by omega)).trans (h.bytes a (by omega))
  case samples =>
    intro bs hpay j hj hj'
    obtain hold | rfl : j < s.enc.pos.toNat + n ∨ j = s.enc.pos.toNat + n := by omega
    · rw [State.pcmSample_congr h'.outside.powerCycles_eq fun a _ ha => hbytes a (by omega)]
      exact h.samples bs hpay j hj hold
    · have hnew := h'.samples bs (h.payload hlen hpay) _ le_rfl (Nat.lt_succ_self _)
      rw [hpos, hstart, h.outside.params_eq, h.enc] at hnew
      exact hnew

end Renders

/-- From a state of the invariant the engine makes every turn up to the last sample of the render under way. -/
theorem engineTurns_renders {s : State} (h : s.Inv) (hb : s.enc.busy = true) {n : Nat}
    (hn : s.enc.pos.toNat + n ≤ s.enc.nsamp) : ∃ t, engineTurns n s = .next t ∧ t.Inv ∧ Renders n s t := by
  induction n with
  | zero => exact ⟨s, rfl, h, .zero h hb⟩
  | succ n ih =>
    obtain ⟨t, hturns, ht, hrenders⟩ := ih (by omega)
    have hbusy : t.enc.busy = true := by
      rw [hrenders.enc]
      simp
      omega
    obtain ⟨u, hstep, hone⟩ := ht.engineStep_renders hbusy
    have hlen : s.enc.len.toNat ≤ 4096 := by
      have hdepths := (Params.ok_iff _).1 h.params_ok
      have hfits := h.enc_inv.busy_len hb
      omega
    exact ⟨u, (engineTurns_succ hturns).trans hstep, (exec_inv ht hstep).1,
      hrenders.succ hone hlen (by omega) (h.nsamp_lt hb)⟩

/-- Settles O33: the turns before the last leave samples to write, and the last ends the render. -/
theorem renderFinishesInNsampSteps : Obligations.RenderFinishesInNsampSteps := by
  intro s h hb
  have hpos := h.enc_inv.busy_pos hb
  have hlt := h.nsamp_lt hb
  refine ⟨fun k hk => ?_, ?_⟩
  · obtain ⟨u, hturns, -, hrenders⟩ := engineTurns_renders h hb (n := k) (by omega)
    refine ⟨u, hturns, ?_, ?_⟩
    · rw [hrenders.enc]
      simp
      omega
    · rw [hrenders.enc, BitVec.toNat_ofNat]
      omega
  · obtain ⟨t, hturns, -, hrenders⟩ := engineTurns_renders h hb (n := s.enc.nsamp - s.enc.pos.toNat) (by omega)
    have hall : s.enc.pos.toNat + (s.enc.nsamp - s.enc.pos.toNat) = s.enc.nsamp := by omega
    refine ⟨t, hturns, ?_, ?_, hrenders.outside, hrenders.reply, fun a ha => hrenders.bytes a (by omega)⟩
    · rw [hrenders.enc, hall]
      simp
    · rw [hrenders.irqStatus, if_pos hall]

/-- Settles O34: the turns that finish the render have written every sample it had left. -/
theorem renderWritesWaveform : Obligations.RenderWritesWaveform := by
  intro s bs h hb hpay
  have hpos := h.enc_inv.busy_pos hb
  obtain ⟨t, hturns, -, hrenders⟩ := engineTurns_renders h hb (n := s.enc.nsamp - s.enc.pos.toNat) (by omega)
  exact ⟨t, hturns, fun j hj hj' => hrenders.samples bs hpay j hj (by omega)⟩

end Sys2Proof.Machine

/-!
PROOFS. The laws of SINE (O30) and the peak bound of a render (O32).
-/

namespace Sys2Proof.Machine

open Sys2Proof.Config

/-! ### The first quadrant -/

/-- A value of the Horner scheme is at most 1. -/
theorem sineHorner_le (y : Nat) (cs : List Nat) : sineHorner y cs ≤ sineOne := by
  cases cs with
  | nil => exact le_rfl
  | cons c cs => exact Nat.sub_le _ _

/-- Up to an eighth of the circle the angle is below 1. -/
theorem sineAngle_le {n : Nat} (hn : n ≤ 2 ^ 29) : sineAngle n ≤ sineOne :=
  calc sineHalfPi * n / 2 ^ 30
      _ ≤ sineHalfPi * 2 ^ 29 / 2 ^ 30 := Nat.div_le_div_right (Nat.mul_le_mul_left _ hn)
      _ ≤ sineOne := by decide

theorem sineFixed_le (n : Nat) : sineFixed n ≤ sineOne := by
  unfold sineFixed
  split
  · next hn =>
    refine Nat.div_le_of_le_mul ?_
    exact Nat.mul_le_mul (sineAngle_le hn) (sineHorner_le _ _)
  · exact sineHorner_le _ _

/-- The reference value lies between 0 and a, as the sine it rounds does. -/
theorem referenceQuarter_bounds (n a : Nat) : 0 ≤ referenceQuarter n a ∧ referenceQuarter n a ≤ a := by
  refine ⟨Int.natCast_nonneg _, Int.ofNat_le.2 (Nat.le_of_lt_succ (Nat.div_lt_of_lt_mul ?_))⟩
  have hsine : 2 * a * sineFixed n ≤ 2 * a * sineOne := Nat.mul_le_mul_left _ (sineFixed_le n)
  have hone : 0 < sineOne := by decide
  linarith

/-- The range law on the first quadrant (R187 law 1). -/
theorem sineQuarter_bounds (c : SineChoice) (n a : Nat) :
    -(a : Int) ≤ sineQuarter c n a ∧ sineQuarter c n a ≤ a := by
  unfold sineQuarter
  split
  · omega
  · split
    · omega
    · cases c with
      | reference =>
        obtain ⟨hlow, hhigh⟩ := referenceQuarter_bounds n a
        exact ⟨le_trans (by omega) hlow, hhigh⟩
      | lawful => exact holdToRange_bounds a _

@[simp] theorem sineQuarter_zero (c : SineChoice) (a : Nat) : sineQuarter c 0 a = 0 := if_pos rfl

@[simp] theorem sineQuarter_top (c : SineChoice) (a : Nat) : sineQuarter c (2 ^ 30) a = a :=
  (if_neg (by decide)).trans (if_pos rfl)

/-! ### The four quadrants, each with both its ends, by the distance `n` to the zero of the sine in it -/

section quadrants

variable (c : SineChoice) {p : Word} (a : Nat) {n : Nat}

theorem sine_first (hn : p.toNat = n) (h : n ≤ 2 ^ 30) : sine c p a = sineQuarter c n a := by
  subst hn
  exact if_pos h

theorem sine_second (hn : p.toNat + n = 2 ^ 31) (h : n ≤ 2 ^ 30) : sine c p a = sineQuarter c n a := by
  obtain hshared | hinside : p.toNat = n ∨ 2 ^ 30 < p.toNat := by omega
  · exact sine_first c a hshared h
  · obtain rfl : 2 ^ 31 - p.toNat = n := by omega
    exact (if_neg (by omega)).trans (if_pos (by omega))

theorem sine_third (hn : p.toNat = 2 ^ 31 + n) (h : n ≤ 2 ^ 30) : sine c p a = -sineQuarter c n a := by
  obtain rfl | hinside := Nat.eq_zero_or_pos n
  · rw [sine_second c a hn h, sineQuarter_zero, neg_zero]
  · obtain rfl : p.toNat - 2 ^ 31 = n := by omega
    exact (if_neg (by omega)).trans ((if_neg (by omega)).trans (if_pos (by omega)))

theorem sine_fourth (hn : p.toNat + n = 2 ^ 32) (h : n ≤ 2 ^ 30) : sine c p a = -sineQuarter c n a := by
  obtain hshared | hinside : p.toNat = 2 ^ 31 + n ∨ 3 * 2 ^ 30 < p.toNat := by omega
  · exact sine_third c a hshared h
  · obtain rfl : 2 ^ 32 - p.toNat = n := by omega
    exact (if_neg (by omega)).trans ((if_neg (by omega)).trans (if_neg (by omega)))

end quadrants

/-- Every phase lies in one of the four quadrants. -/
theorem quadrant_cases (p : Word) : ∃ n, n ≤ 2 ^ 30 ∧
    (p.toNat = n ∨ p.toNat + n = 2 ^ 31 ∨ p.toNat = 2 ^ 31 + n ∨ p.toNat + n = 2 ^ 32) := by
  have hlt := p.isLt
  obtain h | h | h | h : p.toNat ≤ 2 ^ 30 ∨ (2 ^ 30 ≤ p.toNat ∧ p.toNat ≤ 2 ^ 31) ∨
      (2 ^ 31 ≤ p.toNat ∧ p.toNat ≤ 3 * 2 ^ 30) ∨ 3 * 2 ^ 30 ≤ p.toNat := by omega
  · exact ⟨p.toNat, h, .inl rfl⟩
  · exact ⟨2 ^ 31 - p.toNat, by omega, .inr (.inl (by omega))⟩
  · exact ⟨p.toNat - 2 ^ 31, by omega, .inr (.inr (.inl (by omega)))⟩
  · exact ⟨2 ^ 32 - p.toNat, by omega, .inr (.inr (.inr (by omega)))⟩

/-! ### The laws -/

/-- Law 1 of R187: SINE stays within the amplitude. -/
theorem sine_bounds (c : SineChoice) (p : Word) (a : Nat) : -(a : Int) ≤ sine c p a ∧ sine c p a ≤ a := by
  obtain ⟨n, h, hn⟩ := quadrant_cases p
  obtain ⟨hlow, hhigh⟩ := sineQuarter_bounds c n a
  obtain hn | hn | hn | hn := hn
  · rw [sine_first c a hn h]
    exact ⟨hlow, hhigh⟩
  · rw [sine_second c a hn h]
    exact ⟨hlow, hhigh⟩
  · rw [sine_third c a hn h]
    omega
  · rw [sine_fourth c a hn h]
    omega

/-- Law 2 of R187 at phase 0. -/
theorem sine_zero (c : SineChoice) (a : Nat) : sine c 0 a = 0 :=
  (sine_first c a (n := 0) rfl (Nat.zero_le _)).trans (sineQuarter_zero c a)

/-- Law 3 of R187: SINE is odd. -/
theorem sine_neg (c : SineChoice) (p : Word) (a : Nat) : sine c (-p) a = -sine c p a := by
  by_cases hp : p = 0
  · rw [hp, sine_zero, neg_zero]
    exact sine_zero c a
  · have hneg : (-p).toNat + p.toNat = 2 ^ 32 := by bv_omega
    obtain ⟨n, h, hn⟩ := quadrant_cases p
    obtain hn | hn | hn | hn := hn
    · rw [sine_first c a hn h, sine_fourth c a (by omega) h]
    · rw [sine_second c a hn h, sine_third c a (by omega) h]
    · rw [sine_third c a hn h, sine_second c a (by omega) h, neg_neg]
    · rw [sine_fourth c a hn h, sine_first c a (by omega) h, neg_neg]

/-- Law 4 of R187: half a cycle on, SINE has the opposite value. -/
theorem sine_add_half (c : SineChoice) (p : Word) (a : Nat) : sine c (p + 0x80000000) a = -sine c p a := by
  have hsum : (p + 0x80000000).toNat = p.toNat + 2 ^ 31 ∨ (p + 0x80000000).toNat + 2 ^ 31 = p.toNat := by bv_omega
  have hlt := (p + 0x80000000).isLt
  obtain ⟨n, h, hn⟩ := quadrant_cases p
  obtain hn | hn | hn | hn := hn
  · rw [sine_first c a hn h, sine_third c a (by omega) h]
  · obtain hsum | hsum := hsum
    · rw [sine_second c a hn h, sine_fourth c a (by omega) h]
    · obtain rfl : n = 0 := by omega
      rw [sine_second c a hn h, sine_first c a (n := 0) (by omega) h, sineQuarter_zero, neg_zero]
  · rw [sine_third c a hn h, sine_first c a (by omega) h, neg_neg]
  · rw [sine_fourth c a hn h, sine_second c a (by omega) h, neg_neg]

/-- Settles O30: the range and the two symmetries above, the quadrant points by the ends of the quadrants, and
amplitude 0 by the range. -/
theorem sineLaws : Obligations.SineLaws := by
  intro c p a _
  refine ⟨sine_bounds c p a, ⟨sine_zero c a, ?_, ?_, ?_⟩, sine_neg c p a, sine_add_half c p a, ?_, ?_⟩
  · rw [sine_first c a (n := 2 ^ 30) rfl le_rfl, sineQuarter_top]
  · rw [sine_second c a (n := 0) rfl (Nat.zero_le _), sineQuarter_zero]
  · rw [sine_third c a (n := 2 ^ 30) rfl le_rfl, sineQuarter_top]
  · obtain ⟨hlow, hhigh⟩ := sine_bounds c p 0
    omega
  · rintro q b rfl rfl
    rfl

/-! ### The peak of a render -/

/-- A sample of the waveform is the sum of two tones of half the amplitude (R181, R184). -/
theorem abs_waveform_le (c : SineChoice) (e : Enc) (f : List Byte) (j : Nat) :
    |waveform c e f j| ≤ 2 * (e.amp.toNat / 2 : Nat) := by
  have htwo (x y : Int) (m : Nat) (hx : -(m : Int) ≤ x ∧ x ≤ m) (hy : -(m : Int) ≤ y ∧ y ≤ m) :
      |x + y| ≤ 2 * m := by
    rw [abs_le]
    omega
  exact htwo _ _ _ (sine_bounds _ _ _) (sine_bounds _ _ _)

/-- Settles O32, by the bound on a sample. -/
theorem peakStaysWithinAmp : Obligations.PeakStaysWithinAmp := by
  intro c e f j hamp
  have hpeak := abs_waveform_le c e f j
  refine ⟨hpeak, by omega, fun hodd => by omega, ?_⟩
  obtain ⟨hlow, hhigh⟩ := abs_le.1 hpeak
  exact BitVec.toInt_ofInt_eq_self (by decide) (by omega) (by omega)

end Sys2Proof.Machine

/-!
PROOFS. The reference SINE against the real sine (O31): the fixed point, Horner's scheme on the two series, the
remainder of the series, and the rounding.
-/

namespace Sys2Proof.Machine

open Sys2Proof.Config

/-! ### The fixed point -/

/-- The real number a fixed-point number stands for. -/
noncomputable def fixedReal (k : Nat) : ℝ := k / 2 ^ 96

theorem sineOne_cast : (sineOne : ℝ) = 2 ^ 96 := by
  norm_num [sineOne]

theorem fixedReal_sineOne : fixedReal sineOne = 1 := by
  rw [fixedReal, sineOne_cast, div_self (by positivity)]

theorem fixedReal_nonneg (k : Nat) : 0 ≤ fixedReal k := by
  unfold fixedReal
  positivity

theorem fixedReal_le_one {k : Nat} (h : k ≤ sineOne) : fixedReal k ≤ 1 := by
  rw [← fixedReal_sineOne, fixedReal, fixedReal]
  gcongr

/-- A division of naturals rounds down by less than 1. -/
theorem natCast_div_bounds (k d : Nat) : (k : ℝ) / d - 1 ≤ (k / d : Nat) ∧ ((k / d : Nat) : ℝ) ≤ k / d := by
  refine ⟨?_, Nat.cast_div_le⟩
  have hfloor := Nat.lt_floor_add_one ((k : ℝ) / d)
  rw [Nat.floor_div_eq_div] at hfloor
  linarith

/-- A division in fixed point is off by less than the last place. -/
theorem abs_fixedReal_div_sub_le (k d : Nat) : |fixedReal (k / d) - fixedReal k / d| ≤ 1 / 2 ^ 96 := by
  obtain ⟨hlow, hhigh⟩ := natCast_div_bounds k d
  have hdiff : fixedReal (k / d) - fixedReal k / d = (((k / d : Nat) : ℝ) - k / d) / 2 ^ 96 := by
    simp only [fixedReal]
    ring
  rw [hdiff, abs_div, abs_of_pos (show (0 : ℝ) < 2 ^ 96 by positivity)]
  gcongr
  rw [abs_le]
  constructor <;> linarith

/-- A product in fixed point, rescaled and then divided, is off by less than the last place. -/
theorem abs_fixedReal_mul_sub_le (x y c : Nat) :
    |fixedReal (x * y / (sineOne * c)) - fixedReal x * fixedReal y / c| ≤ 1 / 2 ^ 96 := by
  have hproduct : fixedReal (x * y) / ((sineOne * c : Nat) : ℝ) = fixedReal x * fixedReal y / c := by
    simp only [fixedReal, Nat.cast_mul, sineOne_cast]
    ring
  rw [← hproduct]
  exact abs_fixedReal_div_sub_le _ _

/-- The errors of two factors of at most 1 add up. -/
theorem abs_mul_sub_mul_le {x y b d : ℝ} (hb : 0 ≤ b ∧ b ≤ 1) (hy : 0 ≤ y ∧ y ≤ 1) :
    |x * b - y * d| ≤ |x - y| + |b - d| := by
  obtain ⟨hb0, hb1⟩ := hb
  obtain ⟨hy0, hy1⟩ := hy
  calc |x * b - y * d|
      _ = |(x - y) * b + y * (b - d)| := by congr 1; ring
      _ ≤ |x - y| * b + y * |b - d| := by
        refine (abs_add_le _ _).trans_eq ?_
        rw [abs_mul, abs_mul, abs_of_nonneg hb0, abs_of_nonneg hy0]
      _ ≤ |x - y| + |b - d| := by
        have := mul_le_of_le_one_right (abs_nonneg (x - y)) hb1
        have := mul_le_of_le_one_left (abs_nonneg (b - d)) hy1
        linarith

/-! ### Horner's scheme -/

/-- Horner's scheme for 1 − y/c₁·(1 − y/c₂·(…)) on real numbers. -/
noncomputable def seriesHorner (y : ℝ) : List Nat → ℝ
  | [] => 1
  | c :: cs => 1 - y * seriesHorner y cs / c

section horner

variable {y : ℝ} (hy : 0 ≤ y ∧ y ≤ 1)

include hy

theorem seriesHorner_bounds {cs : List Nat} (hcs : ∀ c ∈ cs, 2 ≤ c) :
    0 ≤ seriesHorner y cs ∧ seriesHorner y cs ≤ 1 := by
  induction cs with
  | nil => exact ⟨zero_le_one, le_rfl⟩
  | cons c cs ih =>
    obtain ⟨hc, hcs⟩ := List.forall_mem_cons.1 hcs
    obtain ⟨h0, h1⟩ := ih hcs
    have hc1 : (1 : ℝ) ≤ c := by exact_mod_cast Nat.one_le_of_lt hc
    have hterm : y * seriesHorner y cs / c ≤ 1 :=
      div_le_one_of_le₀ ((mul_le_one₀ hy.2 h0 h1).trans hc1) (by positivity)
    have hnonneg : 0 ≤ y * seriesHorner y cs / c := div_nonneg (mul_nonneg hy.1 h0) (by positivity)
    rw [seriesHorner]
    constructor <;> linarith

/-- The fixed-point scheme is off by the error of its argument and two units of the last place: each division by a
divisor of at least 2 halves what has gathered. -/
theorem abs_sineHorner_sub_le {k : Nat} {δ : ℝ} (hk : k ≤ sineOne) (hδ : |fixedReal k - y| ≤ δ) {cs : List Nat}
    (hcs : ∀ c ∈ cs, 2 ≤ c) : |fixedReal (sineHorner k cs) - seriesHorner y cs| ≤ δ + 2 / 2 ^ 96 := by
  induction cs with
  | nil =>
    have hδ0 : 0 ≤ δ := (abs_nonneg _).trans hδ
    rw [sineHorner, seriesHorner, fixedReal_sineOne, sub_self, abs_zero]
    positivity
  | cons c cs ih =>
    obtain ⟨hc, hcs⟩ := List.forall_mem_cons.1 hcs
    have hc2 : (2 : ℝ) ≤ c := by exact_mod_cast hc
    have hh := sineHorner_le k cs
    set h := sineHorner k cs
    have hq : k * h / (sineOne * c) ≤ sineOne := by
      refine Nat.div_le_of_le_mul ?_
      exact Nat.mul_le_mul (hk.trans (Nat.le_mul_of_pos_right _ (by omega))) hh
    have hround := abs_fixedReal_mul_sub_le k h c
    have hfactors : |fixedReal k * fixedReal h - y * seriesHorner y cs| ≤ 2 * (δ + 1 / 2 ^ 96) := by
      have hsum := abs_mul_sub_mul_le (x := fixedReal k) (d := seriesHorner y cs)
        ⟨fixedReal_nonneg h, fixedReal_le_one hh⟩ hy
      have hrest := ih hcs
      linarith
    have hhalved : |fixedReal k * fixedReal h / c - y * seriesHorner y cs / c| ≤ δ + 1 / 2 ^ 96 := by
      rw [← sub_div, abs_div, Nat.abs_cast, div_le_iff₀ (by linarith)]
      refine hfactors.trans ?_
      rw [mul_comm]
      have hδ0 : 0 ≤ δ := (abs_nonneg _).trans hδ
      gcongr
    have hstep : fixedReal (sineHorner k (c :: cs)) - seriesHorner y (c :: cs) =
        -(fixedReal (k * h / (sineOne * c)) - y * seriesHorner y cs / c) := by
      rw [sineHorner, seriesHorner, fixedReal, Nat.cast_sub hq, sub_div]
      change fixedReal sineOne - fixedReal _ - _ = _
      rw [fixedReal_sineOne]
      ring
    rw [hstep, abs_neg]
    refine (abs_sub_le _ (fixedReal k * fixedReal h / c) _).trans ?_
    linarith

end horner

/-! ### The series of sine and cosine -/

/-- Term `i` of the series of sine (m = 1) or cosine (m = 0), without its sign. -/
noncomputable def seriesTerm (m : Nat) (x : ℝ) (i : Nat) : ℝ := x ^ (2 * i + m) / (2 * i + m).factorial

/-- The divisor by which a term's denominator grows to the next one's. -/
def seriesDivisor (m i : Nat) : Nat := (2 * i + m + 1) * (2 * i + m + 2)

theorem seriesTerm_succ (m : Nat) (x : ℝ) (i : Nat) :
    seriesTerm m x (i + 1) = seriesTerm m x i * (x ^ 2 / seriesDivisor m i) := by
  have hindex : 2 * (i + 1) + m = 2 * i + m + 1 + 1 := by omega
  rw [seriesTerm, seriesTerm, seriesDivisor, hindex, Nat.factorial_succ, Nat.factorial_succ, div_mul_div_comm,
    ← pow_add]
  push_cast
  congr 1
  ring

/-- A partial sum of an alternating series is Horner's scheme on the quotients of its terms. -/
theorem alternating_sum_eq_seriesHorner {f : Nat → ℝ} {c : Nat → Nat} {y : ℝ}
    (hf : ∀ i, f (i + 1) = f i * (y / c i)) (n k : Nat) :
    ∑ i ∈ Finset.range (n + 1), (-1) ^ i * f (k + i) = f k * seriesHorner y ((List.range' k n).map c) := by
  induction n generalizing k with
  | zero => simp [seriesHorner]
  | succ n ih =>
    have htail : ∑ i ∈ Finset.range (n + 1), (-1) ^ (i + 1) * f (k + (i + 1)) =
        -(f (k + 1) * seriesHorner y ((List.range' (k + 1) n).map c)) := by
      rw [← ih (k + 1), ← Finset.sum_neg_distrib]
      refine Finset.sum_congr rfl fun i _ => ?_
      rw [pow_succ, show k + (i + 1) = k + 1 + i by omega]
      ring
    rw [Finset.sum_range_succ', htail, hf k, add_zero, List.range'_succ, List.map_cons, seriesHorner]
    ring

section series

variable {x : ℝ} (hx : 0 ≤ x ∧ x ≤ 1) (m : Nat)

include hx

theorem seriesTerm_antitone : Antitone (seriesTerm m x) := by
  obtain ⟨hx0, hx1⟩ := hx
  refine antitone_nat_of_succ_le fun i => ?_
  rw [seriesTerm_succ]
  have hterm : 0 ≤ seriesTerm m x i := by
    unfold seriesTerm
    positivity
  have hdivisor : (1 : ℝ) ≤ seriesDivisor m i := by
    exact_mod_cast Nat.one_le_iff_ne_zero.2 (by simp [seriesDivisor])
  refine mul_le_of_le_one_right hterm (div_le_one_of_le₀ ?_ (by positivity))
  exact (pow_le_one₀ hx0 hx1).trans hdivisor

/-- The first term left out is below 2^-64. -/
theorem seriesTerm_fifteen_le : seriesTerm m x 15 ≤ 1 / 2 ^ 64 := by
  obtain ⟨hx0, hx1⟩ := hx
  have hfactorial : 2 ^ 64 ≤ (2 * 15 + m).factorial :=
    le_trans (by decide) (Nat.factorial_le (Nat.le_add_right 30 m))
  unfold seriesTerm
  gcongr
  · exact pow_le_one₀ hx0 hx1
  · exact_mod_cast hfactorial

/-- Fifteen terms of an alternating series of sine or cosine are off by less than 2^-64. -/
theorem abs_sub_seriesHorner_le {l : ℝ} (hl : HasSum (fun i => (-1) ^ i * seriesTerm m x i) l)
    (hsummable : Summable (seriesTerm m x)) :
    |l - seriesTerm m x 0 * seriesHorner (x ^ 2) ((List.range' 0 14).map (seriesDivisor m))| ≤ 1 / 2 ^ 64 := by
  have hbound := alternating_series_error_bound _ (seriesTerm_antitone hx m) hsummable 15
  have hsum := alternating_sum_eq_seriesHorner (seriesTerm_succ m x) 14 0
  simp only [Nat.zero_add] at hsum
  rw [hl.tsum_eq, hsum] at hbound
  exact hbound.trans (seriesTerm_fifteen_le hx m)

theorem abs_sin_sub_seriesHorner_le : |Real.sin x - x * seriesHorner (x ^ 2) sineDivisors| ≤ 1 / 2 ^ 64 := by
  have hl : HasSum (fun i => (-1) ^ i * seriesTerm 1 x i) (Real.sin x) := by
    simpa only [seriesTerm, mul_div_assoc] using Real.hasSum_sin x
  have hremainder := abs_sub_seriesHorner_le hx 1 hl (Real.hasSum_sinh x).summable
  rw [show seriesTerm 1 x 0 = x by simp [seriesTerm]] at hremainder
  exact hremainder

theorem abs_cos_sub_seriesHorner_le : |Real.cos x - seriesHorner (x ^ 2) cosineDivisors| ≤ 1 / 2 ^ 64 := by
  have hl : HasSum (fun i => (-1) ^ i * seriesTerm 0 x i) (Real.cos x) := by
    simpa only [seriesTerm, add_zero, mul_div_assoc] using Real.hasSum_cos x
  have hremainder := abs_sub_seriesHorner_le hx 0 hl (Real.hasSum_cosh x).summable
  rw [show seriesTerm 0 x 0 = 1 by simp [seriesTerm], one_mul] at hremainder
  exact hremainder

end series

/-! ### An eighth of the circle -/

/-- The angle of `n` phase units in radians. -/
noncomputable def phaseAngle (n : Nat) : ℝ := Real.pi / 2 * (n / 2 ^ 30)

theorem abs_sineHalfPi_sub_le : |fixedReal sineHalfPi - Real.pi / 2| ≤ 1 / 2 ^ 66 := by
  have hlow := Real.pi_gt_d20
  have hhigh := Real.pi_lt_d20
  rw [abs_le, fixedReal, sineHalfPi]
  constructor <;> norm_num at * <;> linarith

theorem abs_sineAngle_sub_le {n : Nat} (hn : n ≤ 2 ^ 30) : |fixedReal (sineAngle n) - phaseAngle n| ≤ 1 / 2 ^ 65 := by
  have hfraction : (n : ℝ) / 2 ^ 30 ≤ 1 := div_le_one_of_le₀ (by exact_mod_cast hn) (by positivity)
  have hround := abs_fixedReal_div_sub_le (sineHalfPi * n) (2 ^ 30)
  have hexact : fixedReal (sineHalfPi * n) / (2 ^ 30 : Nat) - phaseAngle n =
      (fixedReal sineHalfPi - Real.pi / 2) * (n / 2 ^ 30) := by
    simp only [fixedReal, phaseAngle, Nat.cast_mul]
    push_cast
    ring
  have hpi : |fixedReal (sineHalfPi * n) / (2 ^ 30 : Nat) - phaseAngle n| ≤ 1 / 2 ^ 66 := by
    rw [hexact, abs_mul, abs_of_nonneg (show (0 : ℝ) ≤ n / 2 ^ 30 by positivity)]
    exact (mul_le_of_le_one_right (abs_nonneg _) hfraction).trans abs_sineHalfPi_sub_le
  refine (abs_sub_le _ _ _).trans ((add_le_add hround hpi).trans ?_)
  norm_num

theorem phaseAngle_bounds {n : Nat} (hn : n ≤ 2 ^ 29) : 0 ≤ phaseAngle n ∧ phaseAngle n ≤ 1 := by
  have hpi := Real.pi_pos
  have hfour := Real.pi_le_four
  have hfraction : (n : ℝ) / 2 ^ 30 ≤ 1 / 2 := by
    rw [div_le_div_iff₀ (by positivity) (by positivity)]
    have : (n : ℝ) ≤ 2 ^ 29 := by exact_mod_cast hn
    linarith
  unfold phaseAngle
  refine ⟨by positivity, ?_⟩
  calc Real.pi / 2 * (n / 2 ^ 30)
      _ ≤ Real.pi / 2 * (1 / 2) := by gcongr
      _ ≤ 1 := by linarith

/-- The square of an angle, in fixed point. -/
theorem abs_square_sub_le {x : Nat} {θ : ℝ} (hx : x ≤ sineOne) (hθ : 0 ≤ θ ∧ θ ≤ 1)
    (h : |fixedReal x - θ| ≤ 1 / 2 ^ 65) : |fixedReal (x * x / sineOne) - θ ^ 2| ≤ 1 / 2 ^ 63 := by
  have hround := abs_fixedReal_mul_sub_le x x 1
  rw [mul_one, Nat.cast_one, div_one] at hround
  have hfactors := abs_mul_sub_mul_le (x := fixedReal x) (d := θ) ⟨fixedReal_nonneg x, fixedReal_le_one hx⟩ hθ
  rw [← sq θ] at hfactors
  refine (abs_sub_le _ _ _).trans ((add_le_add hround (hfactors.trans (add_le_add h h))).trans ?_)
  norm_num

section eighth

variable {n : Nat} (hn : n ≤ 2 ^ 29)

include hn

/-- Either series of an angle in the first eighth, in fixed point. -/
theorem abs_horner_sub_le {cs : List Nat} (hcs : ∀ c ∈ cs, 2 ≤ c) :
    |fixedReal (sineHorner (sineAngle n * sineAngle n / sineOne) cs) - seriesHorner (phaseAngle n ^ 2) cs| ≤
      1 / 2 ^ 62 := by
  obtain ⟨hθ0, hθ1⟩ := phaseAngle_bounds hn
  have hsquare := abs_square_sub_le (sineAngle_le hn) ⟨hθ0, hθ1⟩ (abs_sineAngle_sub_le (by omega))
  have hle : sineAngle n * sineAngle n / sineOne ≤ sineOne :=
    Nat.div_le_of_le_mul (Nat.mul_le_mul (sineAngle_le hn) (sineAngle_le hn))
  refine (abs_sineHorner_sub_le ⟨sq_nonneg _, pow_le_one₀ hθ0 hθ1⟩ hle hsquare hcs).trans ?_
  norm_num

/-- The sine series, in fixed point. -/
theorem abs_sineSeries_sub_sin_le :
    |fixedReal (sineAngle n * sineHorner (sineAngle n * sineAngle n / sineOne) sineDivisors / sineOne) -
      Real.sin (phaseAngle n)| ≤ 1 / 2 ^ 60 := by
  have hθ := phaseAngle_bounds hn
  have hround := abs_fixedReal_mul_sub_le (sineAngle n)
    (sineHorner (sineAngle n * sineAngle n / sineOne) sineDivisors) 1
  rw [mul_one, Nat.cast_one, div_one] at hround
  have hfactors := abs_mul_sub_mul_le (x := fixedReal (sineAngle n))
    (d := seriesHorner (phaseAngle n ^ 2) sineDivisors)
    ⟨fixedReal_nonneg _, fixedReal_le_one (sineHorner_le (sineAngle n * sineAngle n / sineOne) sineDivisors)⟩ hθ
  have hangle := abs_sineAngle_sub_le (n := n) (by omega)
  have hhorner := abs_horner_sub_le hn (cs := sineDivisors) (by decide)
  have hseries := abs_sin_sub_seriesHorner_le hθ
  rw [abs_sub_comm] at hseries
  have hproduct := (abs_sub_le _ _ _).trans (add_le_add (hfactors.trans (add_le_add hangle hhorner)) hseries)
  refine (abs_sub_le _ _ _).trans ((add_le_add hround hproduct).trans ?_)
  norm_num

/-- The cosine series, in fixed point. -/
theorem abs_cosineSeries_sub_cos_le :
    |fixedReal (sineHorner (sineAngle n * sineAngle n / sineOne) cosineDivisors) - Real.cos (phaseAngle n)| ≤
      1 / 2 ^ 60 := by
  have hhorner := abs_horner_sub_le hn (cs := cosineDivisors) (by decide)
  have hseries := abs_cos_sub_seriesHorner_le (phaseAngle_bounds hn)
  rw [abs_sub_comm] at hseries
  refine (abs_sub_le _ _ _).trans ((add_le_add hhorner hseries).trans ?_)
  norm_num

end eighth

/-! ### The first quadrant, and the rounding -/

/-- The sine of an angle is the cosine of its complement. -/
theorem sin_phaseAngle_eq_cos {n : Nat} (hn : n ≤ 2 ^ 30) :
    Real.sin (phaseAngle n) = Real.cos (phaseAngle (2 ^ 30 - n)) := by
  rw [← Real.cos_pi_div_two_sub]
  congr 1
  rw [phaseAngle, phaseAngle, Nat.cast_sub hn]
  push_cast
  ring

/-- The fixed-point sine of the first quadrant. -/
theorem abs_sineFixed_sub_sin_le {n : Nat} (hn : n ≤ 2 ^ 30) :
    |fixedReal (sineFixed n) - Real.sin (phaseAngle n)| ≤ 1 / 2 ^ 60 := by
  unfold sineFixed
  split
  · next heighth => exact abs_sineSeries_sub_sin_le heighth
  · next heighth =>
    rw [sin_phaseAngle_eq_cos hn]
    exact abs_cosineSeries_sub_cos_le (by omega)

/-- The reference value is the product with the fixed-point sine, rounded to the nearest integer (R186). -/
theorem abs_referenceQuarter_sub_le (n a : Nat) :
    |(referenceQuarter n a : ℝ) - a * fixedReal (sineFixed n)| ≤ 1 / 2 := by
  obtain ⟨hlow, hhigh⟩ := natCast_div_bounds (2 * a * sineFixed n + sineOne) (2 * sineOne)
  have hshifted : ((2 * a * sineFixed n + sineOne : Nat) : ℝ) / (2 * sineOne : Nat) =
      a * fixedReal (sineFixed n) + 1 / 2 := by
    simp only [fixedReal, Nat.cast_add, Nat.cast_mul, sineOne_cast]
    ring
  rw [hshifted] at hlow hhigh
  rw [referenceQuarter, Int.cast_natCast, abs_le]
  constructor <;> linarith

/-- The reference SINE on the first quadrant, at a legal amplitude. -/
theorem abs_sineQuarter_sub_sin_le {n a : Nat} (hn : n ≤ 2 ^ 30) (ha : a ≤ 16383) :
    |(sineQuarter .reference n a : ℝ) - a * Real.sin (phaseAngle n)| ≤ 1 / 2 + 1 / 2 ^ 40 := by
  obtain rfl | hn0 := Nat.eq_zero_or_pos n
  · simp [phaseAngle]
    positivity
  · obtain rfl | htop := hn.eq_or_lt
    · rw [sineQuarter_top, show phaseAngle (2 ^ 30) = Real.pi / 2 by norm_num [phaseAngle], Real.sin_pi_div_two]
      simp
      positivity
    · have hinside : sineQuarter .reference n a = referenceQuarter n a :=
        (if_neg (by omega)).trans (if_neg (by omega))
      have hamp : (a : ℝ) ≤ 2 ^ 14 := by exact_mod_cast ha.trans (by decide)
      have hscaled : |a * fixedReal (sineFixed n) - a * Real.sin (phaseAngle n)| ≤ 1 / 2 ^ 40 := by
        rw [← mul_sub, abs_mul, Nat.abs_cast]
        refine (mul_le_mul hamp (abs_sineFixed_sub_sin_le hn) (abs_nonneg _) (by positivity)).trans ?_
        norm_num
      rw [hinside]
      exact (abs_sub_le _ _ _).trans (add_le_add (abs_referenceQuarter_sub_le n a) hscaled)

/-- Settles O31: the real sine has the quadrants of SINE, so the bound on the first one is enough. -/
theorem referenceSineRoundsRealSine : Obligations.ReferenceSineRoundsRealSine := by
  intro p a ha
  obtain ⟨n, h, hn⟩ := quadrant_cases p
  have hquarter := abs_sineQuarter_sub_sin_le h ha
  have hphase : 2 * Real.pi * p.toNat / 2 ^ 32 = Real.pi * (p.toNat / 2 ^ 31) := by ring
  have hopposite (v w : ℝ) : |-v - a * -w| = |v - a * w| := by
    rw [← abs_neg]
    congr 1
    ring
  rw [hphase]
  obtain hn | hn | hn | hn := hn
  · have hangle : Real.pi * (p.toNat / 2 ^ 31) = phaseAngle n := by
      rw [hn, phaseAngle]
      ring
    rwa [sine_first .reference a hn h, hangle]
  · have hcast : (p.toNat : ℝ) = 2 ^ 31 - n := by
      rw [eq_sub_iff_add_eq]
      exact_mod_cast hn
    have hangle : Real.pi * (p.toNat / 2 ^ 31) = Real.pi - phaseAngle n := by
      rw [hcast, phaseAngle]
      ring
    rwa [sine_second .reference a hn h, hangle, Real.sin_pi_sub]
  · have hcast : (p.toNat : ℝ) = 2 ^ 31 + n := by exact_mod_cast hn
    have hangle : Real.pi * (p.toNat / 2 ^ 31) = phaseAngle n + Real.pi := by
      rw [hcast, phaseAngle]
      ring
    rwa [sine_third .reference a hn h, hangle, Real.sin_add_pi, Int.cast_neg, hopposite]
  · have hcast : (p.toNat : ℝ) = 2 ^ 32 - n := by
      rw [eq_sub_iff_add_eq]
      exact_mod_cast hn
    have hangle : Real.pi * (p.toNat / 2 ^ 31) = 2 * Real.pi - phaseAngle n := by
      rw [hcast, phaseAngle]
      ring
    rwa [sine_fourth .reference a hn h, hangle, Real.sin_two_pi_sub, Int.cast_neg, hopposite]

end Sys2Proof.Machine

/-!
PROOFS. The detector (O36 to O41): the least argmax of a group and its margin, the filter, when a slot yields a
symbol, and DET_PUSH.
-/

namespace Sys2Proof.Machine

/-! ### The dominance of a group -/

/-- The levels of a group by their index (R215). -/
def Group.level (g : Group) (k : Fin 4) : Int :=
  match k with
  | 0 => g.g0
  | 1 => g.g1
  | 2 => g.g2
  | 3 => g.g3

theorem Group.getD_eq_level (g : Group) (k : Fin 4) : [g.g0, g.g1, g.g2, g.g3].getD k.val 0 = g.level k := by
  fin_cases k <;> rfl

theorem Group.level_le_top (g : Group) (k : Fin 4) : g.level k ≤ g.top := by
  fin_cases k <;> simp [level, top]

/-- `best` tries the indices in order; if the first three miss the maximum, the last one holds it. -/
theorem Group.level_best (g : Group) : g.level g.best = g.top := by
  unfold best
  split_ifs with h0 h1 h2
  · exact h0
  · exact h1
  · exact h2
  · simp only [level, top] at *
    omega

theorem Group.best_le_of_level_eq_top {g : Group} {k : Fin 4} (h : g.level k = g.top) : g.best ≤ k := by
  have hne {i : Fin 4} (hi : g.level i ≠ g.top) : k ≠ i := fun hk => hi (hk ▸ h)
  unfold best
  split_ifs with h0 h1 h2
  · exact Fin.zero_le k
  · have hk0 : k ≠ 0 := hne h0
    omega
  · have hk0 : k ≠ 0 := hne h0
    have hk1 : k ≠ 1 := hne h1
    omega
  · have hk0 : k ≠ 0 := hne h0
    have hk1 : k ≠ 1 := hne h1
    have hk2 : k ≠ 2 := hne h2
    omega

theorem Group.level_lt_top {g : Group} {k : Fin 4} (h : k < g.best) : g.level k < g.top :=
  (g.level_le_top k).lt_of_ne fun htop => absurd (best_le_of_level_eq_top htop) (not_le.mpr h)

/-- The other three indices are those that follow `best`, counted around the group. -/
theorem Group.second_eq (g : Group) :
    g.second = max (g.level (g.best + 1)) (max (g.level (g.best + 2)) (g.level (g.best + 3))) := by
  unfold second
  generalize g.best = b
  fin_cases b <;> simp [level, max_comm, max_left_comm]

theorem Group.level_le_second {g : Group} {k : Fin 4} (h : k ≠ g.best) : g.level k ≤ g.second := by
  rw [second_eq]
  obtain rfl | rfl | rfl : k = g.best + 1 ∨ k = g.best + 2 ∨ k = g.best + 3 := by omega
  all_goals simp

theorem Group.exists_level_eq_second (g : Group) : ∃ k, k ≠ g.best ∧ g.level k = g.second := by
  rw [second_eq]
  obtain h | h := max_choice (g.level (g.best + 1)) (max (g.level (g.best + 2)) (g.level (g.best + 3)))
  · exact ⟨g.best + 1, by omega, h.symm⟩
  · rw [h]
    obtain h | h := max_choice (g.level (g.best + 2)) (g.level (g.best + 3))
    · exact ⟨g.best + 2, by omega, h.symm⟩
    · exact ⟨g.best + 3, by omega, h.symm⟩

theorem Group.second_le_top (g : Group) : g.second ≤ g.top := by
  obtain ⟨k, -, hk⟩ := g.exists_level_eq_second
  exact hk ▸ g.level_le_top k

/-- Settles O36: `level` lists the levels of the group, and the range is that of a difference of two of them. -/
theorem dominanceIsMarginOfLeastArgmax : Obligations.DominanceIsMarginOfLeastArgmax := by
  intro g
  change (∀ k, g.level k ≤ g.level g.best) ∧ (∀ k, k < g.best → g.level k < g.level g.best) ∧
    (∃ k, k ≠ g.best ∧ g.level k = g.second) ∧ (∀ k, k ≠ g.best → g.level k ≤ g.second) ∧
    g.dom = g.level g.best - g.second ∧ g.top = g.level g.best ∧
    ((∀ k, -32768 ≤ g.level k ∧ g.level k ≤ 32767) → 0 ≤ g.dom ∧ g.dom ≤ 65535)
  rw [g.level_best]
  refine ⟨g.level_le_top, fun k => Group.level_lt_top, g.exists_level_eq_second,
    fun k => Group.level_le_second, rfl, rfl, fun hrange => ?_⟩
  obtain ⟨k, -, hk⟩ := g.exists_level_eq_second
  have htop := g.level_best ▸ (hrange g.best).2
  have hsecond := hk ▸ (hrange k).1
  have hle := g.second_le_top
  unfold Group.dom
  omega

/-- Two bands that share the maximum leave no margin: one of them is not the best (R218). -/
theorem Group.second_eq_top_of_tie {g : Group} {j k : Fin 4} (hne : j ≠ k) (hj : g.level j = g.top)
    (hk : g.level k = g.top) : g.second = g.top := by
  refine le_antisymm g.second_le_top ?_
  obtain rfl | hbest := eq_or_ne j g.best
  · exact hk ▸ level_le_second hne.symm
  · exact hj ▸ level_le_second hbest

/-- The margin exceeds a bound exactly when the best band leads every other band by more. -/
theorem Group.lt_dom_iff {g : Group} {t : Int} : t < g.dom ↔ ∀ k, k ≠ g.best → t < g.level g.best - g.level k := by
  rw [dom, g.level_best]
  constructor
  · intro h k hk
    have := level_le_second hk
    omega
  · intro h
    obtain ⟨k, hne, hk⟩ := g.exists_level_eq_second
    exact hk ▸ h k hne

/-- A band that leads every other band is the best one. -/
theorem Group.best_eq_of_leads {g : Group} {j : Fin 4} (h : ∀ k, k ≠ j → g.level k < g.level j) : g.best = j := by
  by_contra hne
  exact absurd (g.level_le_top j) (not_le.mpr (g.level_best ▸ h g.best hne))

/-! ### The filter -/

theorem sat16_of_signed16 (h : Half) : sat16 (signed16 h) = signed16 h := by
  have hlower := h.le_toInt
  have hupper := h.toInt_lt
  unfold sat16 signed16
  omega

/-- Settles O37: the difference with a background of 0 is the level, which needs no saturation. -/
theorem filterSaturates : Obligations.FilterSaturates := by
  intro d i
  refine ⟨rfl, fun hoffset => ?_, rfl, rfl⟩
  calc d.filtered i = sat16 (signed16 (d.level.get i) - signed16 0#16) := by rw [Det.filtered, hoffset]; rfl
    _ = sat16 (signed16 (d.level.get i)) := by rw [show signed16 0#16 = 0 from rfl, sub_zero]
    _ = (d.level.get i).toInt := sat16_of_signed16 _

/-! ### The Result of a slot -/

theorem Det.passes_eq_decide (d : Det) (g : Group) :
    d.passes g = decide ((d.thresh.toNat : Int) < g.dom ∧ d.floor.toInt ≤ g.top) := by
  rw [passes, signed16, Bool.decide_and]

theorem Det.passes_iff {d : Det} {g : Group} :
    d.passes g = true ↔ (d.thresh.toNat : Int) < g.dom ∧ d.floor.toInt ≤ g.top := by
  rw [passes_eq_decide, decide_eq_true_iff]

theorem Det.result_eq_sym_iff {d : Det} {n : Nibble} :
    d.result = .sym n ↔ d.passes d.lowGroup = true ∧ d.passes d.highGroup = true ∧ d.candidate = n := by
  unfold result
  split_ifs with h <;> simp_all

/-- One group that fails is enough for NoMatch (R223). -/
theorem Det.result_eq_noMatch {d : Det} {g : Group} (hg : g = d.lowGroup ∨ g = d.highGroup)
    (hfail : ¬d.passes g = true) : d.result = .noMatch := by
  obtain rfl | rfl := hg <;> simp [result, hfail]

/-- Settles O38: a tie has the margin 0, which exceeds no THRESH. -/
theorem tieOrLowLevelNeverMatches : Obligations.TieOrLowLevelNeverMatches := by
  intro d g hg
  simp only [g.getD_eq_level]
  constructor
  · rintro ⟨j, k, hne, hj, hk⟩
    have hsecond := Group.second_eq_top_of_tie hne hj hk
    have hdom : g.dom = 0 := by rw [Group.dom, hsecond, sub_self]
    refine ⟨hsecond, hdom, Det.result_eq_noMatch hg fun hpass => ?_⟩
    have := (Det.passes_iff.mp hpass).1
    omega
  · intro hlow
    exact Det.result_eq_noMatch hg fun hpass => absurd (Det.passes_iff.mp hpass).2 (not_le.mpr hlow)

/-- A group passes on band `j` exactly when that band leads every other one by more than THRESH and reaches FLOOR. -/
theorem Det.passes_best_iff {d : Det} {g : Group} {j : Fin 4} :
    d.passes g = true ∧ g.best = j ↔
      (∀ k, k ≠ j → (d.thresh.toNat : Int) < g.level j - g.level k) ∧ d.floor.toInt ≤ g.level j := by
  rw [passes_iff, Group.lt_dom_iff, ← g.level_best]
  constructor
  · rintro ⟨h, rfl⟩
    exact h
  · rintro ⟨hleads, hfloor⟩
    obtain rfl : g.best = j := Group.best_eq_of_leads fun k hk => by
      have := hleads k hk
      omega
    exact ⟨⟨hleads, hfloor⟩, rfl⟩

/-- The candidate and the symbol are the same nibble when they have the same two tones (R172, R219). -/
theorem Det.candidate_eq_iff {d : Det} {n : Nibble} :
    d.candidate = n ↔
      d.lowGroup.best = Fin.ofNat 4 (n.toNat / 4) ∧ d.highGroup.best = Fin.ofNat 4 (n.toNat % 4) := by
  have hn := n.isLt
  rw [candidate, ← BitVec.toNat_inj, BitVec.toNat_ofNat, Fin.ext_iff, Fin.ext_iff, Fin.val_ofNat, Fin.val_ofNat]
  omega

theorem Det.lowGroup_level (d : Det) (k : Fin 4) : d.lowGroup.level k = d.filtered (Fin.ofNat 8 k.val) := by
  fin_cases k <;> rfl

theorem Det.highGroup_level (d : Det) (k : Fin 4) : d.highGroup.level k = d.filtered (Fin.ofNat 8 (4 + k.val)) := by
  fin_cases k <;> rfl

/-- Settles O40: each group passes on the band its half of the symbol names. -/
theorem detectorInvertsToneWiring : Obligations.DetectorInvertsToneWiring := by
  intro d n low high lowIdx highIdx
  have hlow : d.passes d.lowGroup = true ∧ d.lowGroup.best = lowIdx ↔
      (∀ k, k ≠ lowIdx → (d.thresh.toNat : Int) < low lowIdx - low k) ∧ d.floor.toInt ≤ low lowIdx := by
    simp only [Det.passes_best_iff, Det.lowGroup_level, low]
  have hhigh : d.passes d.highGroup = true ∧ d.highGroup.best = highIdx ↔
      (∀ k, k ≠ highIdx → (d.thresh.toNat : Int) < high highIdx - high k) ∧ d.floor.toInt ≤ high highIdx := by
    simp only [Det.passes_best_iff, Det.highGroup_level, high]
  rw [Det.result_eq_sym_iff, Det.candidate_eq_iff, ← and_assoc (c := _ ∧ d.floor.toInt ≤ high highIdx), ← hlow,
    ← hhigh]
  exact ⟨fun ⟨hl, hh, hbl, hbh⟩ => ⟨⟨hl, hbl⟩, hh, hbh⟩, fun ⟨⟨hl, hbl⟩, hh, hbh⟩ => ⟨hl, hh, hbl, hbh⟩⟩

/-! ### DET_PUSH -/

theorem exec_detPush (d : Word) (s : State) : exec (.detPush d) s = .next s.pushSlot.replyOkay := rfl

@[simp] theorem State.pushSlot_det (s : State) : s.pushSlot.det = s.det.afterSlot :=
  State.accStep_det _ _

/-- Settles O39: DET_PUSH is ACC_STEP on the registers after the slot, with the reply of a write. -/
theorem detPushProcessesSlot : Obligations.DetPushProcessesSlot := by
  intro s d gl gh ml mh cand det
  have hml : ml = s.det.passes gl := (s.det.passes_eq_decide gl).symm
  have hmh : mh = s.det.passes gh := (s.det.passes_eq_decide gh).symm
  have hdet : det = s.det.afterSlot := by
    simp only [det, hml, hmh]
    rfl
  rw [hdet, hml, hmh]
  exact ⟨s.pushSlot, rfl, exec_detPush d s, s.pushSlot_det⟩

/-- Settles O41: each result register, in the order the slot's values reach it: the filter, the groups, the pass flags
and the candidate. -/
theorem detectorDecisionDependsOnSlotOnly : Obligations.DetectorDecisionDependsOnSlotOnly := by
  intro s s' t t' d d' hlevel hoffset hthresh hfloor ht ht'
  obtain rfl := Host.Outcome.next.inj ((exec_detPush d s).symm.trans ht)
  obtain rfl := Host.Outcome.next.inj ((exec_detPush d' s').symm.trans ht')
  have hfiltered i : s.det.filtered i = s'.det.filtered i := by rw [Det.filtered, Det.filtered, hlevel, hoffset]
  have hlow : s.det.lowGroup = s'.det.lowGroup := by simp only [Det.lowGroup, hfiltered]
  have hhigh : s.det.highGroup = s'.det.highGroup := by simp only [Det.highGroup, hfiltered]
  have hpasses g : s.det.passes g = s'.det.passes g := by rw [Det.passes, Det.passes, hthresh, hfloor]
  have hcandidate : s.det.candidate = s'.det.candidate := by rw [Det.candidate, Det.candidate, hlow, hhigh]
  simp [Det.afterSlot, Det.result, hlow, hhigh, hpasses, hcandidate]

end Sys2Proof.Machine

/-!
PROOFS. The CRC-8 (O49): a shift on numbers, and the residue of a string with its trailer.
-/

namespace Sys2Proof.Machine

/-- One shift of the CRC on numbers: bit 7 falls out and is reduced by the generator (R260). -/
theorem crc8Shift_toNat (c : Byte) :
    (crc8Shift c).toNat = if 128 ≤ c.toNat then (2 * c.toNat % 256) ^^^ 7 else 2 * c.toNat := by
  have htop : c.getLsbD 7 = decide (128 ≤ c.toNat) := BitVec.msb_eq_decide c
  have hshift : (c <<< 1).toNat = 2 * c.toNat % 256 := by
    rw [BitVec.toNat_shiftLeft, Nat.shiftLeft_eq, mul_comm]
  rw [crc8Shift, htop]
  by_cases h : 128 ≤ c.toNat
  · simp [h, hshift]
  · simp only [h, decide_false, Bool.false_eq_true, if_false, hshift]
    omega

theorem crc8Shifts_toNat (n : Nat) (c : Byte) :
    (crc8Shifts n c).toNat = (fun x : Nat => if 128 ≤ x then (2 * x % 256) ^^^ 7 else 2 * x)^[n] c.toNat := by
  induction n generalizing c with
  | zero => rfl
  | succ n ih => rw [crc8Shifts, ih, crc8Shift_toNat, Function.iterate_succ_apply]

/-- Only 0 shifts to 0: a CRC that was reduced is odd. -/
theorem crc8Shift_eq_zero_iff (c : Byte) : crc8Shift c = 0 ↔ c = 0 := by
  have hodd : 2 * c.toNat % 256 ≠ 7 := by omega
  rw [← BitVec.toNat_inj, ← BitVec.toNat_inj, crc8Shift_toNat]
  split
  · next hbit =>
    have hzero : c.toNat ≠ 0 := by omega
    simp [hodd, hzero]
  · simp

theorem crc8Shifts_eq_zero_iff (n : Nat) (c : Byte) : crc8Shifts n c = 0 ↔ c = 0 := by
  induction n generalizing c with
  | zero => rfl
  | succ n ih => rw [crc8Shifts, ih, crc8Shift_eq_zero_iff]

@[simp] theorem crc8_nil : crc8 [] = 0 := rfl

theorem crc8_snoc (p : List Byte) (b : Byte) : crc8 (p ++ [b]) = crc8Step (crc8 p) b := crc8_append p [b]

/-- The residue is 0 exactly for the right trailer (R261). -/
theorem crc8_snoc_eq_zero_iff (p : List Byte) (b : Byte) : crc8 (p ++ [b]) = 0 ↔ b = crc8 p :=
  calc crc8 (p ++ [b]) = 0 ↔ crc8Shifts 8 (crc8 p ^^^ b) = 0 := by rw [crc8_snoc, crc8Step]
    _ ↔ crc8 p ^^^ b = 0 := crc8Shifts_eq_zero_iff 8 _
    _ ↔ b = crc8 p := BitVec.xor_eq_zero_iff.trans eq_comm

/-- Settles O49: `crc8Step` is eight shifts, and no shift makes 0 of anything else. -/
theorem crcResidueIsZero : Obligations.CrcResidueIsZero :=
  ⟨fun c b => by rw [crc8Step, crc8Shifts_toNat, BitVec.toNat_xor], crc8_nil, crc8_snoc, crc8_snoc_eq_zero_iff⟩

end Sys2Proof.Machine

/-!
PROOFS. What one emission, one close and each RX_CTRL command do (O45 to O48), and what one slot does (O42 to O44).
-/

namespace Sys2Proof.Machine

/-! ### An emission, by the state of the frame -/

theorem symbolsToByte_eq_ofNat (hi lo : Nibble) :
    symbolsToByte hi lo = BitVec.ofNat 8 (hi.toNat * 16 + lo.toNat) := by
  have hlo : lo.toNat < 2 ^ 4 := lo.isLt
  have hhi : hi.toNat < 2 ^ 4 := hi.isLt
  apply BitVec.eq_of_toNat_eq
  rw [symbolsToByte, BitVec.toNat_append, ← Nat.shiftLeft_add_eq_or_of_lt hlo, Nat.shiftLeft_eq, BitVec.toNat_ofNat]
  omega

/-- While a closed frame waits an emission is lost (R251). -/
theorem State.emitNibble_of_waiting {s : State} (hv : s.acc.frameValid = true) (x : Nibble) :
    s.emitNibble x = (s.setAcc { s.acc with lastValid := true, lastNib := x, lost := true }).irqSet .rxLost :=
  if_pos hv

/-- With no closed frame waiting an emission enters the frame (R250). -/
theorem State.emitNibble_of_open {s : State} (hv : s.acc.frameValid = false) (x : Nibble) :
    s.emitNibble x = ((s.setAcc { s.acc with lastValid := true, lastNib := x, frameActive := true }).irqSet
      .rxSym).assembleNibble x :=
  if_neg (Bool.eq_false_iff.1 hv)

/-- A low nibble completes the byte of the one held (R252). -/
theorem State.assembleNibble_low {s : State} (hp : s.acc.nibPhase = true) (x : Nibble) :
    s.assembleNibble x = (s.storeByte (symbolsToByte s.acc.hi x)).setAcc
      { (s.storeByte (symbolsToByte s.acc.hi x)).acc with nibPhase := false, hi := 0 } :=
  if_pos hp

/-- With nothing held, an accepted nibble is held as the high one (R250). -/
theorem State.emitNibble_high {s : State} (hv : s.acc.frameValid = false) (hp : s.acc.nibPhase = false) (x : Nibble) :
    s.emitNibble x =
      (s.setAcc { s.acc with lastValid := true, lastNib := x, frameActive := true, hi := x, nibPhase := true }).irqSet
        .rxSym :=
  (State.emitNibble_of_open hv x).trans (if_neg (Bool.eq_false_iff.1 hp))

/-- An accepted low nibble completes a byte, which is stored while RX RAM has room (R252). -/
theorem State.emitNibble_low {s : State} (hv : s.acc.frameValid = false) (hp : s.acc.nibPhase = true)
    (hroom : s.acc.count.toNat < s.params.rxDepth) (x : Nibble) :
    s.emitNibble x =
      ((s.setMem (s.mem.write (0x2000 + s.acc.count.toNat) (symbolsToByte s.acc.hi x))).setAcc { s.acc with
        lastValid := true, lastNib := x, frameActive := true, count := s.acc.count + 1
        crc := crc8Step s.acc.crc (symbolsToByte s.acc.hi x), nibPhase := false, hi := 0 }).irqSet .rxSym := by
  rw [State.emitNibble_of_open hv, State.assembleNibble_low, State.storeByte, if_pos]
  · rfl
  · exact hroom
  · exact hp

/-- With RX RAM full the completed byte is dropped (R253). -/
theorem State.emitNibble_overflow {s : State} (hv : s.acc.frameValid = false) (hp : s.acc.nibPhase = true)
    (hfull : ¬s.acc.count.toNat < s.params.rxDepth) (x : Nibble) :
    s.emitNibble x =
      ((s.setAcc { s.acc with
        lastValid := true, lastNib := x, frameActive := true, ovf := true, nibPhase := false, hi := 0 }).irqSet
          .rxSym).irqSet .rxLost := by
  rw [State.emitNibble_of_open hv, State.assembleNibble_low, State.storeByte, if_neg]
  · rfl
  · exact hfull
  · exact hp

/-- Settles O45: the frame waits, or it takes a high nibble, or a low one with or without room for the byte. -/
theorem emissionEntersFrame : Obligations.EmissionEntersFrame := by
  intro s x a b
  have hb : b = symbolsToByte s.acc.hi x := (symbolsToByte_eq_ofNat _ _).symm
  rw [hb]
  split_ifs with hv hp hroom
  · exact State.emitNibble_of_waiting hv x
  · exact State.emitNibble_high (Bool.eq_false_iff.2 hv) hp x
  · exact State.emitNibble_low (Bool.eq_false_iff.2 hv) (Bool.eq_true_of_not_eq_false hp) hroom x
  · have hirq : s.irqStatus ||| 0b10100 = (s.irqStatus ||| 0b00100) ||| 0b10000 :=
      (BitVec.or_assoc _ 0b00100#5 0b10000#5).symm
    rw [hirq]
    exact State.emitNibble_overflow (Bool.eq_false_iff.2 hv) (Bool.eq_true_of_not_eq_false hp) hroom x

/-! ### A close and the RX_CTRL commands -/

/-- The verdict of a close (R265). -/
theorem Acc.integrity_eq_decide (a : Acc) :
    a.integrity = decide (1 ≤ a.count.toNat ∧ a.ovf = false ∧ (a.crcEn = false ∨ a.crc = 0)) := by
  rw [Bool.eq_iff_iff]
  simp [Acc.integrity, and_assoc]

/-- Settles O46, by whether a frame is active. -/
theorem frameCloseGivesVerdict : Obligations.FrameCloseGivesVerdict := by
  intro s cleared
  rw [← Acc.integrity_eq_decide]
  obtain ⟨ha, he⟩ | ⟨ha, he⟩ := s.frameClose_cases <;> rw [ha]
  · exact congrArg Host.Outcome.next he
  · exact congrArg Host.Outcome.next he

/-- Settles O47, by whether a closed frame waits. -/
theorem ackReleasesFrame : Obligations.AckReleasesFrame := by
  intro s d
  have hexec : exec (.rxAck d) s = .next s.ackFrame.replyOkay := rfl
  rw [hexec, State.ackFrame]
  cases s.acc.frameValid <;> rfl

/-- A close does not look at the reply of the transaction before it. -/
theorem State.replyOkay_frameClose (s : State) : s.replyOkay.frameClose = s.frameClose.replyOkay := by
  unfold State.frameClose
  rw [State.replyOkay_acc]
  cases s.acc.frameActive <;> rfl

/-- Settles O48: RX_FLUSH is a close with the reply of a write, and so is the second half of RX_ACK_FLUSH. -/
theorem flushClosesAfterAck : Obligations.FlushClosesAfterAck := by
  intro s d
  have hflush (t : State) : exec (.rxFlush d) t = .next t.frameClose.replyOkay := rfl
  refine ⟨⟨s.frameClose, rfl, hflush s⟩, s.ackFrame.replyOkay, s.ackFrame.frameClose.replyOkay, rfl, ?_, rfl⟩
  rw [hflush, State.replyOkay_frameClose]
  rfl

/-! ### One slot -/

theorem exec_accStep (r : SlotResult) (s : State) : exec (.accStep r) s = .next (s.accStep r) := rfl

/-- The length of the run a slot belongs to, saturated (R242). -/
def Acc.runLength (a : Acc) (r : SlotResult) : Nat := if a.sameRun r then min (a.runCnt.toNat + 1) 65535 else 1

theorem Acc.sameRun_noMatch_iff (a : Acc) : a.sameRun .noMatch = true ↔ a.runValid = false := by
  simp [Acc.sameRun]

theorem Acc.sameRun_sym_iff (a : Acc) (x : Nibble) :
    a.sameRun (.sym x) = true ↔ a.runValid = true ∧ a.runNib = x := by
  simp [Acc.sameRun]

theorem Acc.runGrew_iff (a : Acc) (r : SlotResult) :
    a.runGrew r = true ↔ ¬(a.sameRun r = true ∧ a.runCnt = 0xFFFF) := by
  simp [Acc.runGrew, imp_iff_not_or]

theorem Acc.runLength_lt (a : Acc) (r : SlotResult) : a.runLength r < 2 ^ 16 := by
  unfold Acc.runLength
  split <;> omega

/-- A 16-bit counter saturates at 65535 (R64). -/
theorem saturating_succ (c : Half) :
    (if c ≠ 0xFFFF then c + 1 else c) = BitVec.ofNat 16 (min (c.toNat + 1) 65535) := by
  have hc := c.isLt
  apply BitVec.eq_of_toNat_eq
  split
  · next h =>
    have hne : c.toNat ≠ 65535 := fun he => h (BitVec.eq_of_toNat_eq he)
    change (c.toNat + 1) % 65536 = min (c.toNat + 1) 65535 % 65536
    omega
  · next h =>
    obtain rfl := not_not.1 h
    rfl

/-- The run counter holds the length of the run (R242). -/
theorem Acc.trackRun_runCnt (a : Acc) (r : SlotResult) : (a.trackRun r).runCnt = BitVec.ofNat 16 (a.runLength r) := by
  unfold Acc.trackRun Acc.runLength
  split
  · next hsame =>
    have hgrew : a.runGrew r = true ↔ a.runCnt ≠ 0xFFFF := by simp [Acc.runGrew_iff, hsame]
    rw [← saturating_succ]
    simp only [hgrew]
    split <;> rfl
  · cases r <;> rfl

/-- Run tracking of a symbol slot (R240, R242). -/
theorem Acc.trackRun_sym (a : Acc) (x : Nibble) :
    a.trackRun (.sym x) =
      { a with runValid := true, runNib := x, runCnt := BitVec.ofNat 16 (a.runLength (.sym x)) } := by
  rw [← Acc.trackRun_runCnt]
  unfold Acc.trackRun
  split
  · next hsame =>
    obtain ⟨hv, rfl⟩ := (a.sameRun_sym_iff x).1 hsame
    split <;> (rw [← hv])
  · rfl

/-- Run tracking of a NoMatch slot (R240, R242). -/
theorem Acc.trackRun_noMatch (a : Acc) :
    a.trackRun .noMatch = { a with
      runValid := false, runNib := if a.runValid = false then a.runNib else 0
      runCnt := BitVec.ofNat 16 (a.runLength .noMatch) } := by
  rw [← Acc.trackRun_runCnt]
  unfold Acc.trackRun
  split
  · next hsame =>
    have hv := a.sameRun_noMatch_iff.1 hsame
    rw [if_pos hv]
    split <;> (rw [← hv])
  · next hsame =>
    rw [if_neg (fun hv => hsame (a.sameRun_noMatch_iff.2 hv))]

/-- The registers after a symbol slot that made its run `c` slots long and has not emitted yet (R240, R248). -/
def State.runAt (s : State) (x : Nibble) (c : Nat) : State :=
  s.setAcc { s.acc with runValid := true, runNib := x, runCnt := BitVec.ofNat 16 c, gapCnt := 0 }

/-- ACC_STEP of a symbol slot: the run is counted, and the symbol emitted if the debounce says so (R240). -/
theorem State.accStep_sym (s : State) (x : Nibble) :
    s.accStep (.sym x) = (s.runAt x (s.acc.runLength (.sym x))).finishSym
      ((s.runAt x (s.acc.runLength (.sym x))).acc.emits (s.acc.runGrew (.sym x)) x) x := by
  rw [State.accStep, Acc.trackRun_sym]
  rfl

/-- R244: in RUN mode a symbol slot emits when its run was counted and is h, h + S, h + 2S, … slots long. -/
theorem State.accStep_sym_run {s : State} (hmode : s.acc.mode = .run) (x : Nibble) :
    s.accStep (.sym x) =
      if s.acc.runGrew (.sym x) = true ∧ s.acc.half ≤ s.acc.runLength (.sym x) ∧
        (s.acc.runLength (.sym x) - s.acc.half) % s.acc.slotsPerWord.toNat = 0
      then (s.runAt x (s.acc.runLength (.sym x))).emitNibble x
      else s.runAt x (s.acc.runLength (.sym x)) := by
  have hcnt : (BitVec.ofNat 16 (s.acc.runLength (.sym x))).toNat = s.acc.runLength (.sym x) := by
    rw [BitVec.toNat_ofNat, Nat.mod_eq_of_lt (s.acc.runLength_lt _)]
  rw [State.accStep_sym, State.finishSym]
  simp [Acc.emits, State.runAt, Acc.half, hmode, hcnt, and_assoc]

/-- R245: in CHANGE mode a symbol slot emits when nothing was emitted since the last close, or something else was. -/
theorem State.accStep_sym_change {s : State} (hmode : s.acc.mode = .change) (x : Nibble) :
    s.accStep (.sym x) =
      if s.acc.lastValid = false ∨ s.acc.lastNib ≠ x then (s.runAt x (s.acc.runLength (.sym x))).emitNibble x
      else s.runAt x (s.acc.runLength (.sym x)) := by
  rw [State.accStep_sym, State.finishSym]
  simp [Acc.emits, State.runAt, hmode]

/-- Settles O42, by `State.accStep_sym_run`. -/
theorem accStepSymRunMode : Obligations.AccStepSymRunMode := by
  intro s x hmode same cnt h emit u
  have hcnt : s.acc.runLength (.sym x) = cnt := by
    simp only [Acc.runLength, Acc.sameRun_sym_iff, cnt, same]
  rw [exec_accStep, State.accStep_sym_run hmode, hcnt]
  simp only [Acc.runGrew_iff, Acc.sameRun_sym_iff]
  rfl

/-- Settles O43, by `State.accStep_sym_change`. -/
theorem accStepSymChangeMode : Obligations.AccStepSymChangeMode := by
  intro s x hmode cnt u
  have hcnt : s.acc.runLength (.sym x) = cnt := by
    simp only [Acc.runLength, Acc.sameRun_sym_iff, cnt]
  rw [exec_accStep, State.accStep_sym_change hmode, hcnt]
  rfl

/-- Gap tracking of a NoMatch slot (R248). -/
theorem Acc.trackGap_noMatch (a : Acc) :
    a.trackGap .noMatch = { a with gapCnt := BitVec.ofNat 16 (min (a.gapCnt.toNat + 1) 65535) } := by
  have hgrew : a.gapGrew .noMatch = true ↔ a.gapCnt ≠ 0xFFFF := by simp [Acc.gapGrew]
  rw [← saturating_succ]
  simp only [Acc.trackGap, hgrew]
  split <;> rfl

/-- Settles O44: the close is tested on the counted gap. -/
theorem accStepNoMatchClosesGap : Obligations.AccStepNoMatchClosesGap := by
  intro s cnt gap u
  have hcnt : s.acc.runLength .noMatch = cnt := by
    simp only [Acc.runLength, Acc.sameRun_noMatch_iff, cnt]
  have hu : s.setAcc ((s.acc.trackRun .noMatch).trackGap .noMatch) = u := by
    rw [Acc.trackRun_noMatch, Acc.trackGap_noMatch, hcnt]
    rfl
  have hlt : gap < 2 ^ 16 := by omega
  have hgap : BitVec.ofNat 16 gap = s.acc.gapSlots ↔ gap = s.acc.gapSlots.toNat := by
    rw [← BitVec.toNat_inj, BitVec.toNat_ofNat, Nat.mod_eq_of_lt hlt]
  have hstep : s.accStep .noMatch = u.finishNoMatch ((s.acc.trackRun .noMatch).gapGrew .noMatch) :=
    congrArg (State.finishNoMatch · _) hu
  rw [exec_accStep, hstep, State.finishNoMatch]
  simp [Acc.gapGrew, Acc.trackRun_noMatch, u, hgap, and_assoc]

end Sys2Proof.Machine

/-!
PROOFS. Runs of one symbol in RUN mode (O50): how many slots of a run emit, the run slot by slot, and the nibbles a
frame with room takes in.
-/

namespace Sys2Proof.Machine

/-! ### The emissions of a run -/

/-- The number of slots that emit, of a run of `l` slots with S = `w` (R244). -/
def wordEmissions (w l : Nat) : Nat := if l < (w + 1) / 2 then 0 else (l - (w + 1) / 2) / w + 1

/-- One more slot emits when it makes the run h, h + S, h + 2S, … slots long (R244). -/
theorem wordEmissions_succ (w l : Nat) :
    wordEmissions w (l + 1) = wordEmissions w l +
      if (w + 1) / 2 ≤ l + 1 ∧ (l + 1 - (w + 1) / 2) % w = 0 then 1 else 0 := by
  unfold wordEmissions
  generalize hh : (w + 1) / 2 = h
  obtain hlt | rfl | hle : l + 1 < h ∨ h = l + 1 ∨ h ≤ l := by omega
  · have hlt' : l < h := by omega
    have hnot : ¬h ≤ l + 1 := by omega
    simp [hlt, hlt', hnot]
  · simp
  · have hsub : l + 1 - h = l - h + 1 := by omega
    have hnot : ¬l < h := by omega
    have hnot' : ¬l + 1 < h := by omega
    have hle' : h ≤ l + 1 := by omega
    simp only [hnot, hnot', hle', if_false, true_and, hsub, Nat.succ_div, Nat.dvd_iff_mod_eq_zero]
    omega

theorem wordEmissions_mono (w : Nat) : Monotone (wordEmissions w) :=
  monotone_nat_of_le_succ fun l => by rw [wordEmissions_succ]; exact Nat.le_add_right _ _

/-- The emissions of a run, in two parts. -/
theorem wordEmissions_sub_add_sub (w : Nat) {k l m : Nat} (hkl : k ≤ l) (hlm : l ≤ m) :
    wordEmissions w m - wordEmissions w k =
      wordEmissions w m - wordEmissions w l + (wordEmissions w l - wordEmissions w k) :=
  (Nat.sub_add_sub_cancel (wordEmissions_mono w hlm) (wordEmissions_mono w hkl)).symm

/-- R246: a run counts as `j` words between the middle of its `j`-th word and the middle of the next. -/
theorem wordEmissions_eq_iff {w j : Nat} (hw : 0 < w) (hj : 0 < j) (l : Nat) :
    wordEmissions w l = j ↔ (j - 1) * w + (w + 1) / 2 ≤ l ∧ l ≤ j * w + (w + 1) / 2 - 1 := by
  obtain ⟨i, rfl⟩ : ∃ i, j = i + 1 := ⟨j - 1, by omega⟩
  have hmul : (i + 1) * w = i * w + w := Nat.succ_mul i w
  have hhalf : 1 ≤ (w + 1) / 2 := by omega
  rw [wordEmissions, Nat.add_sub_cancel]
  split
  · omega
  · have hdiv : (l - (w + 1) / 2) / w = i ↔ i * w ≤ l - (w + 1) / 2 ∧ l - (w + 1) / 2 < i * w + w := by
      rw [Nat.div_eq_iff hw]
      omega
    omega

/-! ### A run, slot by slot -/

/-- The slots a run of `x` has behind it, none where the slot before was another Result (R242). -/
def Acc.runBehind (a : Acc) (x : Nibble) : Nat := if a.runValid = true ∧ a.runNib = x then a.runCnt.toNat else 0

/-- The slot extends the run while its counter is below 65535 (R242). -/
theorem Acc.runLength_eq_runBehind {a : Acc} {x : Nibble} (h : a.runBehind x < 65535) :
    a.runGrew (.sym x) = true ∧ a.runLength (.sym x) = a.runBehind x + 1 := by
  simp only [Acc.runGrew_iff, Acc.runLength, Acc.sameRun_sym_iff, Acc.runBehind] at h ⊢
  split
  · next hsame =>
    simp only [hsame, and_self, if_true] at h
    refine ⟨fun ⟨_, hsat⟩ => ?_, by omega⟩
    simp [hsat] at h
  · next hother => exact ⟨fun ⟨hsame, _⟩ => hother hsame, rfl⟩

/-- An emission neither sees nor changes the run. -/
theorem State.emitNibble_commute_runAt (x y : Nibble) (c : Nat) :
    Function.Commute (fun u : State => u.emitNibble x) (fun u => u.runAt y c) := by
  intro s
  change (s.runAt y c).emitNibble x = (s.emitNibble x).runAt y c
  cases hv : s.acc.frameValid with
  | true =>
    rw [State.emitNibble_of_waiting hv, State.emitNibble_of_waiting (s := s.runAt y c) hv]
    rfl
  | false =>
    cases hp : s.acc.nibPhase with
    | false =>
      rw [State.emitNibble_high hv hp, State.emitNibble_high (s := s.runAt y c) hv hp]
      rfl
    | true =>
      by_cases hroom : s.acc.count.toNat < s.params.rxDepth
      · rw [State.emitNibble_low hv hp hroom, State.emitNibble_low (s := s.runAt y c) hv hp hroom]
        rfl
      · rw [State.emitNibble_overflow hv hp hroom, State.emitNibble_overflow (s := s.runAt y c) hv hp hroom]
        rfl

/-- No emission changes MODE or S. -/
theorem State.emitNibble_config (s : State) (x : Nibble) :
    (s.emitNibble x).acc.mode = s.acc.mode ∧ (s.emitNibble x).acc.slotsPerWord = s.acc.slotsPerWord := by
  simp only [State.emitNibble, State.acceptNibble, State.assembleNibble, State.storeByte]
  split_ifs <;> exact ⟨rfl, rfl⟩

theorem State.emitNibble_iterate_config (s : State) (x : Nibble) (n : Nat) :
    ((fun u : State => u.emitNibble x)^[n] s).acc.mode = s.acc.mode ∧
      ((fun u : State => u.emitNibble x)^[n] s).acc.slotsPerWord = s.acc.slotsPerWord := by
  induction n with
  | zero => exact ⟨rfl, rfl⟩
  | succ n ih =>
    obtain ⟨hmode, hslots⟩ := ih
    rw [Function.iterate_succ_apply']
    exact ⟨(State.emitNibble_config _ x).1.trans hmode, (State.emitNibble_config _ x).2.trans hslots⟩

/-- A slot of a run that the counter can still count, `m` slots behind it (R244). -/
theorem State.accStep_run {s : State} (hmode : s.acc.mode = .run) {x : Nibble} {m : Nat}
    (hbehind : s.acc.runBehind x = m) (hm : m < 65535) :
    s.accStep (.sym x) = (fun u : State => u.emitNibble x)^[wordEmissions s.acc.slotsPerWord.toNat (m + 1) -
      wordEmissions s.acc.slotsPerWord.toNat m] (s.runAt x (m + 1)) := by
  subst hbehind
  obtain ⟨hgrew, hlength⟩ := Acc.runLength_eq_runBehind hm
  rw [State.accStep_sym_run hmode, hlength, hgrew, wordEmissions_succ, Nat.add_sub_cancel_left]
  simp only [true_and, Acc.half]
  split <;> rfl

/-- The next slot of a run that has `m` slots counted. -/
theorem State.accStep_runAt {s : State} (hmode : s.acc.mode = .run) (x : Nibble) {m : Nat} (hm : m < 65535) :
    (s.runAt x m).accStep (.sym x) = (fun u : State => u.emitNibble x)^[
      wordEmissions s.acc.slotsPerWord.toNat (m + 1) - wordEmissions s.acc.slotsPerWord.toNat m]
      (s.runAt x (m + 1)) := by
  have hbehind : (s.runAt x m).acc.runBehind x = m := by
    simp [Acc.runBehind, State.runAt, Nat.mod_eq_of_lt (show m < 65536 by omega)]
  exact State.accStep_run (s := s.runAt x m) hmode hbehind hm

theorem accSteps_append (s : State) (rs qs : List SlotResult) :
    accSteps s (rs ++ qs) = accSteps (accSteps s rs) qs := by
  induction rs generalizing s with
  | nil => rfl
  | cons r rs ih => exact ih _

/-- The emissions of a run's slots come to those of the run so far, made when all its slots are counted. -/
theorem accSteps_run {s : State} (hmode : s.acc.mode = .run) {x : Nibble} {m : Nat} (hbehind : s.acc.runBehind x = m)
    (l : Nat) (hfits : m + (l + 1) ≤ 65535) :
    accSteps s (List.replicate (l + 1) (.sym x)) = (fun u : State => u.emitNibble x)^[
      wordEmissions s.acc.slotsPerWord.toNat (m + (l + 1)) - wordEmissions s.acc.slotsPerWord.toNat m]
      (s.runAt x (m + (l + 1))) := by
  induction l with
  | zero => exact State.accStep_run hmode hbehind (by omega)
  | succ l ih =>
    have ih := ih (by omega)
    set w := s.acc.slotsPerWord.toNat with hw
    set n := wordEmissions w (m + (l + 1)) - wordEmissions w m
    set v := (fun u : State => u.emitNibble x)^[n] s with hv
    have hcommute (c : Nat) : (fun u : State => u.emitNibble x)^[n] (s.runAt x c) = v.runAt x c :=
      (State.emitNibble_commute_runAt x x c).iterate_left n s
    obtain ⟨hmode', hslots'⟩ := s.emitNibble_iterate_config x n
    rw [← hv] at hmode' hslots'
    calc accSteps s (List.replicate (l + 1 + 1) (.sym x))
        = (v.runAt x (m + (l + 1))).accStep (.sym x) := by
          rw [List.replicate_succ', accSteps_append, ih, hcommute]
          rfl
      _ = (fun u : State => u.emitNibble x)^[wordEmissions w (m + (l + 1) + 1) - wordEmissions w (m + (l + 1))]
            (v.runAt x (m + (l + 1) + 1)) := by
          rw [State.accStep_runAt (hmode'.trans hmode) x (by omega), hslots']
      _ = (fun u : State => u.emitNibble x)^[wordEmissions w (m + (l + 1 + 1)) - wordEmissions w m]
            (s.runAt x (m + (l + 1 + 1))) := by
          rw [← hcommute, ← Function.iterate_add_apply, ← wordEmissions_sub_add_sub w (by omega) (by omega)]
          rfl

/-! ### The nibbles of a frame with room -/

/-- An emission into an open frame with room in RX RAM is accepted, and drops nothing (R250, R252). -/
theorem State.emitNibble_accepted {s : State} (hp : s.params.ok = true) (hv : s.acc.frameValid = false)
    (hroom : s.acc.nibbles + 1 ≤ 2 * s.params.rxDepth) (x : Nibble) :
    (s.emitNibble x).acc.frameValid = false ∧ (s.emitNibble x).acc.nibbles = s.acc.nibbles + 1 ∧
      (s.emitNibble x).acc.ovf = s.acc.ovf := by
  unfold Acc.nibbles at hroom ⊢
  cases hphase : s.acc.nibPhase with
  | false =>
    rw [State.emitNibble_high hv hphase]
    exact ⟨hv, rfl, rfl⟩
  | true =>
    have hcount : s.acc.count.toNat < s.params.rxDepth := by
      rw [hphase, Bool.toNat_true] at hroom
      omega
    rw [State.emitNibble_low hv hphase hcount]
    refine ⟨hv, ?_, rfl⟩
    have hstored : (s.acc.count + 1).toNat = s.acc.count.toNat + 1 := Acc.count_succ hp hcount
    change 2 * (s.acc.count + 1).toNat + 0 = 2 * s.acc.count.toNat + 1 + 1
    omega

theorem State.emitNibble_iterate_accepted {s : State} (hp : s.params.ok = true) (hv : s.acc.frameValid = false)
    (x : Nibble) (n : Nat) (hroom : s.acc.nibbles + n ≤ 2 * s.params.rxDepth) :
    ((fun u : State => u.emitNibble x)^[n] s).acc.nibbles = s.acc.nibbles + n ∧
      ((fun u : State => u.emitNibble x)^[n] s).acc.ovf = s.acc.ovf := by
  induction n generalizing s with
  | zero => exact ⟨rfl, rfl⟩
  | succ n ih =>
    obtain ⟨hv', hnibbles, hovf⟩ := State.emitNibble_accepted hp hv (by omega) x
    have hparams := s.emitNibble_params x
    obtain ⟨hn, ho⟩ := ih (s := s.emitNibble x) (by rwa [hparams]) hv' (by rw [hparams]; omega)
    exact ⟨hn.trans (by omega), ho.trans hovf⟩

/-- Settles O50: the run slot by slot, the frame emission by emission, and the words of a run. -/
theorem runEmitsOncePerWord : Obligations.RunEmitsOncePerWord := by
  intro s x l hmode hslots hl k w h emissions n t hfits
  have hw : 0 < w := Nat.pos_of_ne_zero fun hzero => hslots (BitVec.eq_of_toNat_eq hzero)
  obtain ⟨l, rfl⟩ : ∃ i, l = i + 1 := ⟨l - 1, by omega⟩
  have ht : t = (fun u : State => u.emitNibble x)^[n] (s.runAt x (k + (l + 1))) := accSteps_run hmode rfl l hfits
  refine ⟨ht, fun hp hv hroom => ?_, fun j hj => wordEmissions_eq_iff hw hj _⟩
  rw [ht]
  exact State.emitNibble_iterate_accepted (s := s.runAt x (k + (l + 1))) hp hv x n hroom

end Sys2Proof.Machine

/-!
PROOFS. Received frames (O51) and closed frames (O52): a byte sent one slot per word, a string of them, the verdict of
their close, and the RX bytes while a closed frame waits.
-/

namespace Sys2Proof.Machine

/-! ### One byte, one slot per word -/

/-- With S = 1 every symbol slot emits, until the run counter is saturated (R244). -/
theorem State.accStep_slotPerWord {s : State} (hmode : s.acc.mode = .run) (hslots : s.acc.slotsPerWord = 1)
    (hcnt : s.acc.runCnt.toNat < 65535) (x : Nibble) :
    ∃ c, c ≤ s.acc.runCnt.toNat + 1 ∧ s.accStep (.sym x) = (s.runAt x c).emitNibble x := by
  have hbehind : s.acc.runBehind x ≤ s.acc.runCnt.toNat := by
    unfold Acc.runBehind
    split <;> omega
  have hone (m : Nat) : wordEmissions 1 (m + 1) - wordEmissions 1 m = 1 := by
    simp [wordEmissions_succ, Nat.mod_one]
  have hword : s.acc.slotsPerWord.toNat = 1 := congrArg BitVec.toNat hslots
  refine ⟨s.acc.runBehind x + 1, by omega, ?_⟩
  rw [State.accStep_run hmode rfl (by omega), hword, hone, Function.iterate_one]

/-- Two slots of a frame with nothing held and room in RX RAM store a byte (R250, R252). -/
theorem State.accStep_byte {s : State} (hmode : s.acc.mode = .run) (hslots : s.acc.slotsPerWord = 1)
    (hcnt : s.acc.runCnt.toNat < 65534) (hv : s.acc.frameValid = false) (hphase : s.acc.nibPhase = false)
    (hroom : s.acc.count.toNat < s.params.rxDepth) (hi lo : Nibble) :
    ∃ c, c ≤ s.acc.runCnt.toNat + 2 ∧ (s.accStep (.sym hi)).accStep (.sym lo) =
      (((s.setMem (s.mem.write (0x2000 + s.acc.count.toNat) (symbolsToByte hi lo))).setAcc { s.acc with
        runValid := true, runNib := lo, runCnt := BitVec.ofNat 16 c, gapCnt := 0, lastValid := true, lastNib := lo
        nibPhase := false, hi := 0, frameActive := true, count := s.acc.count + 1
        crc := crc8Step s.acc.crc (symbolsToByte hi lo) }).irqSet .rxSym).irqSet .rxSym := by
  obtain ⟨c, hc, hfirst⟩ := State.accStep_slotPerWord hmode hslots (by omega) hi
  rw [State.emitNibble_high (s := s.runAt hi c) hv hphase] at hfirst
  have hrun : (BitVec.ofNat 16 c).toNat = c := by rw [BitVec.toNat_ofNat]; omega
  have hcnt' : (s.accStep (.sym hi)).acc.runCnt.toNat = c := by rw [hfirst]; exact hrun
  obtain ⟨d, hd, hsecond⟩ := State.accStep_slotPerWord (s := s.accStep (.sym hi)) (by rw [hfirst]; exact hmode)
    (by rw [hfirst]; exact hslots) (by omega) lo
  refine ⟨d, by omega, ?_⟩
  rw [hsecond, hfirst, State.emitNibble_low]
  · rfl
  · exact hv
  · rfl
  · exact hroom

/-! ### A string of bytes -/

/-- `t` is `s` after the bytes `bs`, all of them received into an open frame: stored, in the CRC, nothing held and
nothing dropped. -/
structure State.Received (s t : State) (bs : List Byte) : Prop where
  params : t.params = s.params
  crcEn : t.acc.crcEn = s.acc.crcEn
  mode : t.acc.mode = .run
  slots : t.acc.slotsPerWord = 1
  run : t.acc.runCnt.toNat ≤ 2 * bs.length
  opened : t.acc.frameValid = false
  phase : t.acc.nibPhase = false
  active : bs ≠ [] → t.acc.frameActive = true
  count : t.acc.count.toNat = bs.length
  crc : t.acc.crc = crc8 bs
  ovf : t.acc.ovf = false
  bytes : t.mem.writtenBytes 0x2000 bs.length = some bs

/-- A fresh ACC has received nothing (R64). -/
theorem State.Received.nil {s : State} (hfresh : s.acc.fresh) (hmode : s.acc.mode = .run)
    (hslots : s.acc.slotsPerWord = 1) : s.Received s [] := by
  obtain ⟨-, -, hrun, -, -, -, hphase, -, -, hcrc, hcount, hv, -, hovf, -⟩ := hfresh
  exact {
    params := rfl
    crcEn := rfl
    mode := hmode
    slots := hslots
    run := by simp [hrun]
    opened := hv
    phase := hphase
    active := fun hne => absurd rfl hne
    count := by simp [hcount]
    crc := hcrc
    ovf := hovf
    bytes := rfl }

/-- The two slots of a byte make the byte again (R130, R252). -/
theorem symbolsToByte_symbols (b : Byte) :
    symbolsToByte (BitVec.ofNat 4 (b.toNat / 16)) (BitVec.ofNat 4 (b.toNat % 16)) = b := by
  have hb := b.isLt
  rw [symbolsToByte_eq_ofNat]
  apply BitVec.eq_of_toNat_eq
  simp only [BitVec.toNat_ofNat]
  omega

theorem accSteps_symbolSlots_snoc (s : State) (bs : List Byte) (b : Byte) :
    accSteps s (symbolSlots (bs ++ [b])) =
      ((accSteps s (symbolSlots bs)).accStep (.sym (BitVec.ofNat 4 (b.toNat / 16)))).accStep
        (.sym (BitVec.ofNat 4 (b.toNat % 16))) := by
  rw [symbolSlots, List.flatMap_append, accSteps_append]
  rfl

/-- One more byte is received while RX RAM has room. -/
theorem State.Received.snoc {s t : State} {bs : List Byte} (h : s.Received t bs) (hp : s.params.ok = true)
    (hroom : bs.length < s.params.rxDepth) (b : Byte) :
    s.Received ((t.accStep (.sym (BitVec.ofNat 4 (b.toNat / 16)))).accStep (.sym (BitVec.ofNat 4 (b.toNat % 16))))
      (bs ++ [b]) := by
  have hdepth := (Params.ok_iff _).1 hp
  have hrun := h.run
  have hroom' : t.acc.count.toNat < t.params.rxDepth := by rw [h.count, h.params]; exact hroom
  have hcount : (t.acc.count + 1).toNat = (bs ++ [b]).length := by
    rw [Acc.count_succ (by rw [h.params]; exact hp) hroom', h.count, List.length_append, List.length_singleton]
  obtain ⟨c, hc, he⟩ := State.accStep_byte h.mode h.slots (by omega) h.opened h.phase hroom'
    (BitVec.ofNat 4 (b.toNat / 16)) (BitVec.ofNat 4 (b.toNat % 16))
  rw [he, symbolsToByte_symbols]
  exact {
    params := h.params
    crcEn := h.crcEn
    mode := h.mode
    slots := h.slots
    run := by
      have hlt : c < 2 ^ 16 := by omega
      change (BitVec.ofNat 16 c).toNat ≤ _
      rw [BitVec.toNat_ofNat, Nat.mod_eq_of_lt hlt, List.length_append, List.length_singleton]
      omega
    opened := h.opened
    phase := rfl
    active := fun _ => rfl
    count := hcount
    crc := by
      change crc8Step t.acc.crc b = _
      rw [h.crc, crc8_snoc]
    ovf := h.ovf
    bytes := by
      change (t.mem.write (0x2000 + t.acc.count.toNat) b).writtenBytes 0x2000 _ = _
      rw [h.count, List.length_append]
      exact Memory.writtenBytes_snoc b h.bytes }

/-- Bytes sent one slot per word are received whole (R263). -/
theorem accSteps_symbolSlots_received {s : State} (hp : s.params.ok = true) (hfresh : s.acc.fresh)
    (hmode : s.acc.mode = .run) (hslots : s.acc.slotsPerWord = 1) (bs : List Byte)
    (hroom : bs.length ≤ s.params.rxDepth) : s.Received (accSteps s (symbolSlots bs)) bs := by
  induction bs using List.reverseRecOn with
  | nil => exact .nil hfresh hmode hslots
  | append_singleton bs b ih =>
    rw [List.length_append, List.length_singleton] at hroom
    rw [accSteps_symbolSlots_snoc]
    exact (ih (by omega)).snoc hp (by omega) b

/-! ### The verdict of the close -/

/-- The close of a frame of the bytes `p ++ [b]` checks the last byte against the CRC-8 of the others (R265, R273). -/
theorem State.frameClose_verdict {s : State} (ha : s.acc.frameActive = true) {p : List Byte} {b : Byte}
    (hcount : s.acc.count.toNat = p.length + 1) (hcrc : s.acc.crc = crc8 (p ++ [b])) :
    s.frameClose.acc.frameValid = true ∧ s.frameClose.acc.frameLen.toNat = p.length + 1 ∧
      (s.frameClose.acc.crcOk = true ↔ s.acc.ovf = false ∧ (s.acc.crcEn = false ∨ b = crc8 p)) := by
  have hclose : s.frameClose = (s.setAcc s.acc.closeFrame.clearStream).irqSet .rxFrame := if_pos ha
  rw [hclose]
  refine ⟨rfl, hcount, ?_⟩
  change s.acc.integrity = true ↔ _
  simp [Acc.integrity_eq_decide, hcount, hcrc, ← crc8_snoc_eq_zero_iff]

/-- Settles O51: the bytes received whole have their CRC in the CRC register, and so have the bytes of every active
frame in a state of the invariant. -/
theorem receivedFrameIsValid : Obligations.ReceivedFrameIsValid := by
  refine ⟨fun s p b hp hfresh hmode hslots hroom => ?_, fun s p b hinv ha hcount hbytes => ?_⟩
  · have h := accSteps_symbolSlots_received hp hfresh hmode hslots (p ++ [b]) (by simpa using hroom)
    have hlength : (p ++ [b]).length = p.length + 1 := by simp
    obtain ⟨hvalid, hlen, hok⟩ := State.frameClose_verdict (h.active (by simp)) (h.count.trans hlength) h.crc
    refine ⟨_, rfl, hvalid, ?_, hlen, ?_⟩
    · simpa only [h.ovf, h.crcEn, true_and] using hok
    · rw [State.frameClose_mem, ← hlength]
      exact h.bytes
  · obtain ⟨bs, hbs, hcrc⟩ := hinv.frame_bytes
    obtain rfl : bs = p ++ [b] := by
      rw [hcount] at hbs
      exact Option.some.inj (hbs.symm.trans hbytes)
    obtain ⟨hvalid, -, hok⟩ := State.frameClose_verdict ha hcount (hcrc ha)
    exact ⟨_, rfl, hvalid, hok⟩

/-! ### The RX window while a closed frame waits -/

theorem Acc.trackSlot_frameValid (a : Acc) (r : SlotResult) :
    ((a.trackRun r).trackGap r).frameValid = a.frameValid := by
  cases r with
  | noMatch => rw [Acc.trackRun_noMatch, Acc.trackGap_noMatch]
  | sym x => rw [Acc.trackRun_sym]; rfl

/-- While a closed frame waits no slot writes a byte (R251). -/
theorem State.accStep_mem_of_waiting {s : State} (hv : s.acc.frameValid = true) (r : SlotResult) :
    (s.accStep r).mem = s.mem := by
  obtain he | ⟨x, -, he⟩ | ⟨-, -, he⟩ := s.accStep_cases r <;> rw [he]
  · rfl
  · rw [State.emitNibble_of_waiting]
    · rfl
    · exact (s.acc.trackSlot_frameValid r).trans hv
  · rw [State.frameClose_mem, State.setAcc_mem]

/-- While a closed frame waits no operation of the side of DET and ACC writes a byte. -/
theorem RxOp.mem_of_waiting {i : Instr} {f : State → State} (hf : RxOp i f) {s : State}
    (hv : s.acc.frameValid = true) : (f s).mem = s.mem := by
  cases hf with
  | det | acc => rfl
  | push => exact State.accStep_mem_of_waiting (s := s.setDet s.det.afterSlot) hv _
  | slot r => exact State.accStep_mem_of_waiting hv r
  | flush | ack | ackFlush | close => simp

/-- While a closed frame waits no instruction changes a byte of the RX window. -/
theorem exec_rxBytes_of_waiting {i : Instr} {s t : State} (hv : s.acc.frameValid = true) (hx : exec i s = .next t) :
    ∀ a, 0x2000 ≤ a → a < 0x3000 → t.mem.lookup a = s.mem.lookup a := by
  cases hi : i.side with
  | quiet => exact (exec_keepsRx (.inl hi) hx).1.bytes
  | enc => exact (exec_keepsRx (.inr hi) hx).1.bytes
  | rx =>
    obtain ⟨f, hf, hexec⟩ := exec_rx hi
    obtain rfl := Host.Outcome.next.inj ((hexec s).symm.trans hx)
    exact fun a _ _ => by rw [hf.mem_of_waiting hv]
  | reset =>
    obtain ⟨d, rfl⟩ := eq_srst_of_side hi
    obtain rfl := Host.Outcome.next.inj ((exec_srst d s).symm.trans hx)
    exact fun _ _ _ => rfl

/-- Settles O52: by the event the step takes off the schedule. Only the deassertion of `rst` forgets the RAMs, and it
counts a power cycle. -/
theorem closedFrameBytesKept : Obligations.ClosedFrameBytesKept := by
  intro s t _ hstep hv hcycles
  obtain ⟨-, -, -, hx⟩ | ⟨-, -, rfl⟩ | ⟨tx, rest, -, -, hx⟩ | ⟨tx, rest, -, -, rfl⟩ | ⟨rest, -, -, hx⟩ |
    ⟨rest, -, -, rfl⟩ | ⟨rest, -, rfl⟩ | ⟨rest, -, -, rfl⟩ | ⟨rest, -, -, rfl⟩ := step_cases hstep
  · exact exec_rxBytes_of_waiting hv hx
  · exact fun _ _ _ => rfl
  · exact exec_rxBytes_of_waiting (s := s.setSchedule rest) hv hx
  · exact fun _ _ _ => rfl
  · exact exec_rxBytes_of_waiting (s := s.setSchedule rest) hv hx
  · exact fun _ _ _ => rfl
  · exact fun _ _ _ => rfl
  · exact absurd hcycles (Nat.succ_ne_self s.powerCycles)
  · exact fun _ _ _ => rfl

end Sys2Proof.Machine

/-!
PROOFS. Pending interrupts (O54): every operation keeps them but the W1C write of IRQ_STATUS, which clears the bits it
names, and the two resets.
-/

namespace Sys2Proof.Machine

/-! ### What keeps the pending interrupts -/

/-- Every interrupt pending in `s` is pending in `t` (R299). -/
def KeepsPending (s t : State) : Prop :=
  ∀ b, s.irqStatus.getLsbD b = true → t.irqStatus.getLsbD b = true

theorem KeepsPending.of_eq {s t : State} (h : t.irqStatus = s.irqStatus) : KeepsPending s t :=
  fun _ hb => h.symm ▸ hb

theorem KeepsPending.refl (s : State) : KeepsPending s s :=
  .of_eq rfl

theorem KeepsPending.trans {s t u : State} (h : KeepsPending s t) (h' : KeepsPending t u) : KeepsPending s u :=
  fun b hb => h' b (h b hb)

/-- An operation that starts from a state with the same IRQ_STATUS. -/
theorem KeepsPending.congr {s s' t : State} (h : KeepsPending s' t) (hs : s'.irqStatus = s.irqStatus) :
    KeepsPending s t :=
  (KeepsPending.of_eq hs).trans h

/-- Setting an interrupt flag clears no other (R18). -/
theorem KeepsPending.irqSet {s t : State} (h : KeepsPending s t) (i : IrqSource) : KeepsPending s (t.irqSet i) := by
  intro b hb
  rw [State.irqSet_irqStatus, BitVec.getLsbD_or, h b hb, Bool.true_or]

/-! ### The operations of ENC -/

theorem State.startRender_keepsPending (s : State) (c : Bool) : KeepsPending s (s.startRender c) := by
  unfold State.startRender
  obtain ⟨-, he⟩ | ⟨-, -, he⟩ | ⟨-, -, -, he⟩ | ⟨-, -, -, he⟩ := s.startWith_cases { s.enc with crcEn := c }
  all_goals rw [he]
  · exact (KeepsPending.of_eq rfl).irqSet .encErr
  · exact (KeepsPending.of_eq rfl).irqSet .encErr
  · exact (KeepsPending.of_eq rfl).irqSet .encDone
  · exact .of_eq rfl

theorem State.lockedWrite_keepsPending {s : State} {f : State → State} (hf : KeepsPending s (f s)) :
    KeepsPending s (s.lockedWrite f) := by
  obtain ⟨-, he⟩ | ⟨-, he⟩ := s.lockedWrite_cases f <;> rw [he]
  · exact .of_eq rfl
  · exact hf.trans (.of_eq rfl)

theorem execEngineStep_keepsPending {s t : State} (hx : execEngineStep s = .next t) : KeepsPending s t := by
  obtain ⟨-, rfl⟩ | ⟨-, -, he⟩ := execEngineStep_cases hx
  · exact .refl _
  · subst he
    split
    · exact .of_eq rfl
    · exact (KeepsPending.of_eq rfl).irqSet .encDone

theorem EncOp.keepsPending {g : State → StepResult} (hg : EncOp g) {s t : State} (hx : g s = .next t) :
    KeepsPending s t := by
  cases hg with
  | config f hf =>
    obtain rfl := Host.Outcome.next.inj hx
    exact State.lockedWrite_keepsPending (.of_eq rfl)
  | start c =>
    obtain rfl := Host.Outcome.next.inj hx
    exact State.lockedWrite_keepsPending (s.startRender_keepsPending c)
  | clearWerr k =>
    obtain rfl := Host.Outcome.next.inj hx
    exact .of_eq rfl
  | ram r w j v hr =>
    obtain ⟨-, he⟩ | ⟨-, -, he⟩ | ⟨-, -, he⟩ := ramWrite_cases r w j v s
    all_goals
      obtain rfl := Host.Outcome.next.inj (he.symm.trans hx)
      exact .of_eq rfl
  | engine => exact execEngineStep_keepsPending hx

/-! ### The operations of DET and ACC -/

theorem State.storeByte_keepsPending (s : State) (b : Byte) : KeepsPending s (s.storeByte b) := by
  obtain ⟨-, he⟩ | ⟨-, he⟩ := s.storeByte_cases b <;> rw [he]
  · exact .of_eq rfl
  · exact (KeepsPending.of_eq rfl).irqSet .rxLost

theorem State.assembleNibble_keepsPending (s : State) (x : Nibble) : KeepsPending s (s.assembleNibble x) := by
  unfold State.assembleNibble
  split
  · exact (s.storeByte_keepsPending _).trans (.of_eq rfl)
  · exact .of_eq rfl

theorem State.acceptNibble_keepsPending (s : State) (x : Nibble) : KeepsPending s (s.acceptNibble x) := by
  obtain ⟨-, he⟩ | ⟨-, he⟩ := s.acceptNibble_cases x <;> rw [he]
  · exact (KeepsPending.of_eq rfl).irqSet .rxLost
  · refine .trans ?_ (State.assembleNibble_keepsPending _ x)
    exact (KeepsPending.of_eq rfl).irqSet .rxSym

theorem State.emitNibble_keepsPending (s : State) (x : Nibble) : KeepsPending s (s.emitNibble x) :=
  (State.acceptNibble_keepsPending _ x).congr rfl

theorem State.frameClose_keepsPending (s : State) : KeepsPending s s.frameClose := by
  obtain ⟨-, he⟩ | ⟨-, he⟩ := s.frameClose_cases <;> rw [he]
  · exact (KeepsPending.of_eq rfl).irqSet .rxFrame
  · exact .of_eq rfl

theorem State.ackFrame_keepsPending (s : State) : KeepsPending s s.ackFrame := by
  unfold State.ackFrame
  split <;> exact .of_eq rfl

theorem State.accStep_keepsPending (s : State) (r : SlotResult) : KeepsPending s (s.accStep r) := by
  obtain he | ⟨x, -, he⟩ | ⟨-, -, he⟩ := s.accStep_cases r <;> rw [he]
  · exact .of_eq rfl
  · exact (State.emitNibble_keepsPending _ x).congr rfl
  · exact (State.frameClose_keepsPending _).congr rfl

theorem State.pushSlot_keepsPending (s : State) : KeepsPending s s.pushSlot :=
  (State.accStep_keepsPending _ _).congr rfl

theorem RxOp.keepsPending {i : Instr} {f : State → State} (hf : RxOp i f) (s : State) : KeepsPending s (f s) := by
  cases hf with
  | det | acc => exact .of_eq rfl
  | push => exact s.pushSlot_keepsPending.trans (.of_eq rfl)
  | flush => exact s.frameClose_keepsPending.trans (.of_eq rfl)
  | ack => exact s.ackFrame_keepsPending.trans (.of_eq rfl)
  | ackFlush => exact (s.ackFrame_keepsPending.trans s.ackFrame.frameClose_keepsPending).trans (.of_eq rfl)
  | slot r => exact s.accStep_keepsPending r
  | close => exact s.frameClose_keepsPending

/-! ### Instructions and steps -/

/-- An instruction of no side keeps the pending interrupts, or it is the W1C write of IRQ_STATUS (R155). -/
theorem exec_quiet_keepsPending {i : Instr} (h : i.side = .quiet) {s t : State} (hx : exec i s = .next t) :
    KeepsPending s t ∨ ∃ d, i = .wrIrqStatus d := by
  cases i
  case wrIrqStatus d => exact .inr ⟨d, rfl⟩
  case rdTx8 j | rdRx8 j | rdPcm8 j | rdTx16 j | rdRx16 j | rdPcm16 j | rdTx32 j | rdRx32 j | rdPcm32 j =>
    obtain ⟨-, he⟩ | ⟨-, he⟩ := ramRead_cases _ _ j.toNat s
    all_goals
      obtain rfl := Host.Outcome.next.inj (he.symm.trans hx)
      exact .inl (.of_eq rfl)
  all_goals cases h
  all_goals
    obtain rfl := Host.Outcome.next.inj hx
    exact .inl (.of_eq rfl)

/-- Every instruction keeps the pending interrupts but the W1C write of IRQ_STATUS and the soft reset (R299). -/
theorem exec_keepsPending {i : Instr} {s t : State} (hx : exec i s = .next t) :
    KeepsPending s t ∨ ∃ d, i = .wrIrqStatus d ∨ i = .srst d := by
  cases hi : i.side with
  | quiet => exact (exec_quiet_keepsPending hi hx).imp_right fun ⟨d, hd⟩ => ⟨d, .inl hd⟩
  | enc => exact .inl ((exec_enc hi).keepsPending hx)
  | rx =>
    obtain ⟨f, hf, hexec⟩ := exec_rx hi
    obtain rfl := Host.Outcome.next.inj ((hexec s).symm.trans hx)
    exact .inl (hf.keepsPending s)
  | reset =>
    obtain ⟨d, rfl⟩ := eq_srst_of_side hi
    exact .inr ⟨d, .inr rfl⟩

/-- The W1C write of IRQ_STATUS keeps every pending bit it does not name (R155). -/
theorem getLsbD_of_wrIrqStatus_clears {d : Word} {s t : State} {b : Nat} (hx : exec (.wrIrqStatus d) s = .next t)
    (hs : s.irqStatus.getLsbD b = true) (ht : t.irqStatus.getLsbD b = false) : d.getLsbD b = true := by
  obtain ⟨⟨v, hv, hbits⟩, -⟩ := flagRegisterWrites s d
  obtain rfl := Host.Outcome.next.inj (hv.symm.trans hx)
  have hbit : v.getLsbD b = (s.irqStatus.getLsbD b && !d.getLsbD b) := hbits b (BitVec.lt_of_getLsbD hs)
  have hcleared : v.getLsbD b = false := ht
  simpa [hcleared, hs] using hbit

/-- An instruction that clears a pending interrupt is a W1C write that names it, or the soft reset. -/
theorem exec_clears_pending {i : Instr} {s t : State} {b : Nat} (hx : exec i s = .next t)
    (hs : s.irqStatus.getLsbD b = true) (ht : t.irqStatus.getLsbD b = false) :
    ∃ d, (i = .wrIrqStatus d ∧ d.getLsbD b = true) ∨ i = .srst d := by
  obtain hkeeps | ⟨d, rfl | rfl⟩ := exec_keepsPending hx
  · exact absurd ((hkeeps b hs).symm.trans ht) nofun
  · exact ⟨d, .inl ⟨rfl, getLsbD_of_wrIrqStatus_clears hx hs ht⟩⟩
  · exact ⟨d, .inr rfl⟩

/-- Settles O54: by the event the step takes off the schedule. No event but a transaction of one of the two
instructions, or the deassertion of an asserted `rst`, clears a pending interrupt. -/
theorem pendingIrqClearedOnlyByHost : Obligations.PendingIrqClearedOnlyByHost := by
  intro s t b hstep hs ht
  have hcleared : ¬KeepsPending s t := fun hkeeps => absurd ((hkeeps b hs).symm.trans ht) nofun
  obtain ⟨-, -, -, hx⟩ | ⟨-, -, rfl⟩ | ⟨tx, rest, hevent, -, hx⟩ | ⟨tx, rest, -, -, rfl⟩ | ⟨rest, -, -, hx⟩ |
    ⟨rest, -, -, rfl⟩ | ⟨rest, -, rfl⟩ | ⟨rest, hevent, hrst, rfl⟩ | ⟨rest, -, -, rfl⟩ := step_cases hstep
  · exact absurd (execEngineStep_keepsPending hx) hcleared
  · exact absurd (.refl _) hcleared
  · obtain ⟨d, hd⟩ := exec_clears_pending (s := s.setSchedule rest) hx hs ht
    exact ⟨rest, .inl ⟨tx, d, hevent, hd⟩⟩
  · exact absurd (.of_eq rfl) hcleared
  · exact absurd ((execEngineStep_keepsPending hx).congr rfl) hcleared
  · exact absurd (.of_eq rfl) hcleared
  · exact absurd (.of_eq rfl) hcleared
  · exact ⟨rest, .inr ⟨hevent, hrst⟩⟩
  · exact absurd (.of_eq rfl) hcleared

end Sys2Proof.Machine

/-!
PROOFS. Bus errors (O10): the reply to a transaction, by the stage of the opcode map that takes it. The rows of the
registers complete with OKAY, the rows of the illegal and the unmapped accesses with ERROR, and a row of a RAM window
with the one or the other, by alignment and depth.
-/

namespace Sys2Proof.Machine

open Sys2Proof.Config

/-! ### The RAM windows (R92) -/

/-- The number of address bits inside a RAM's window. -/
def Ram.addrBits : Ram → Nat
  | .tx => 12
  | .rx => 12
  | .pcm => 20

/-- Offset `j` of a RAM's window stands at address `a`. -/
def Ram.At (r : Ram) (j : Nat) (a : Word) : Prop :=
  a.toNat = r.base + j ∧ j < 2 ^ r.addrBits

/-- An address that matches a window's row is that of its low bits in the window. -/
theorem Ram.at_of_windowMask (r : Ram) {a : Word}
    (ha : a &&& BitVec.allOnes 32 <<< r.addrBits = BitVec.ofNat 32 r.base) :
    r.At (a.extractLsb' 0 r.addrBits).toNat a := by
  have hbase : (BitVec.ofNat 32 r.base).toNat = r.base := by cases r <;> rfl
  have hhigh := (and_mask_eq_iff a _ (j := 0) (Nat.zero_le r.addrBits) (Nat.zero_le _) (by simp)).1 ha
  rw [hbase, pow_zero, Nat.mod_one, add_zero] at hhigh
  refine ⟨?_, BitVec.isLt _⟩
  rw [BitVec.extractLsb'_toNat, Nat.shiftRight_zero, ← hhigh, Nat.div_add_mod]

/-! ### The cases of R292 by the kind of access -/

theorem formatBytes_eq_four_iff (f : Format) : formatBytes f = 4 ↔ f = .rd32 ∨ f = .wr32 := by
  cases f <;> decide

/-- An aligned 32-bit access of the register window is in none of the cases. -/
theorem not_busErrorCase_of_register {p : Params} {t : Txn} (hfmt : t.fmt = .rd32 ∨ t.fmt = .wr32)
    (hwindow : t.addr.toNat < 1024) (haligned : t.addr.toNat % 4 = 0) : ¬BusErrorCase p t := by
  have hbytes := (formatBytes_eq_four_iff t.fmt).2 hfmt
  omega

/-- A narrow or misaligned access of the register window is in the first or the second case. -/
theorem busErrorCase_of_illegal {p : Params} {t : Txn} (hwindow : t.addr.toNat < 1024)
    (hillegal : t.fmt = .rd32 ∨ t.fmt = .wr32 → t.addr.toNat % 4 ≠ 0) : BusErrorCase p t := by
  rw [← formatBytes_eq_four_iff] at hillegal
  omega

/-- An access of no region is in the last case. -/
theorem busErrorCase_of_unmapped {p : Params} {t : Txn} (h : regionOf t.addr = none) : BusErrorCase p t := by
  rw [regionOf_eq_none_iff] at h
  omega

/-- An access of a RAM window is in one of the cases when it is misaligned, too deep, or writes the RX window. -/
theorem busErrorCase_iff_of_ram {p : Params} {t : Txn} {r : Ram} {j : Nat} (hat : r.At j t.addr) :
    BusErrorCase p t ↔ ¬(j % formatBytes t.fmt = 0 ∧ j + formatBytes t.fmt ≤ r.bytes p) ∨
      (r = .rx ∧ readFormat t.fmt = false) := by
  obtain ⟨ha, hj⟩ := hat
  cases hread : readFormat t.fmt <;> cases r
  all_goals
    simp only [Ram.base, Ram.addrBits] at ha hj
    simp only [BusErrorCase, busErrorAt, badRamAccess, ha, hread, Ram.bytes, Nat.add_sub_cancel_left, reduceCtorEq,
      and_true, and_false, false_or, or_false, or_true, iff_true]
    omega

/-! ### What a transaction is answered -/

/-- The transaction completes with OKAY (R91). -/
def CompletesOkay (o : StepResult) : Prop :=
  ∃ u, o = .next u ∧ (u.reply = .write .okay ∨ ∃ d, u.reply = .read .okay d)

/-- The transaction gets the reply R292 gives it. -/
def RepliesByCase (s : State) (t : Txn) (o : StepResult) : Prop :=
  (BusErrorCase s.params t → o = .next { s with reply := errorReply t.fmt }) ∧
    (¬BusErrorCase s.params t → CompletesOkay o)

theorem RepliesByCase.of_error {s : State} {t : Txn} {o : StepResult} (hcase : BusErrorCase s.params t)
    (ho : o = .next { s with reply := errorReply t.fmt }) : RepliesByCase s t o :=
  ⟨fun _ => ho, fun hnot => absurd hcase hnot⟩

theorem RepliesByCase.of_okay {s : State} {t : Txn} {o : StepResult} (hcase : ¬BusErrorCase s.params t)
    (ho : CompletesOkay o) : RepliesByCase s t o :=
  ⟨fun h => absurd h hcase, fun _ => ho⟩

theorem errorReply_of_read {f : Format} (h : readFormat f = true) : errorReply f = .read .error 0 :=
  if_pos h

theorem errorReply_of_write {f : Format} (h : readFormat f = false) : errorReply f = .write .error :=
  if_neg (by simp [h])

theorem readRegister_okay (d : Word) (s : State) : CompletesOkay (readRegister d s) :=
  ⟨_, rfl, .inr ⟨d, rfl⟩⟩

theorem replyOkay_okay (s : State) : CompletesOkay (.next s.replyOkay) :=
  ⟨_, rfl, .inl rfl⟩

/-- A locked write completes with OKAY, whether it takes effect or not (R297). -/
theorem lockedWrite_okay (s : State) (f : State → State) : CompletesOkay (.next (s.lockedWrite f)) := by
  obtain ⟨-, he⟩ | ⟨-, he⟩ := s.lockedWrite_cases f <;> rw [he]
  · exact replyOkay_okay _
  · exact replyOkay_okay _

/-! ### The accesses of a RAM -/

section ram

variable {s : State} {t : Txn} {r : Ram} {w : Width} {j : Nat}

theorem ramRead_repliesByCase (hread : readFormat t.fmt = true) (hbytes : formatBytes t.fmt = w.bytes)
    (hat : r.At j t.addr) : RepliesByCase s t (ramRead r w j s) := by
  have hcase : BusErrorCase s.params t ↔ ¬(j % w.bytes = 0 ∧ j + w.bytes ≤ r.bytes s.params) := by
    simp [busErrorCase_iff_of_ram hat, hread, hbytes]
  by_cases hlegal : j % w.bytes = 0 ∧ j + w.bytes ≤ r.bytes s.params
  · refine .of_okay (fun hbad => hcase.1 hbad hlegal) ?_
    rw [ramRead_of_legal hlegal]
    exact ⟨_, rfl, .inr ⟨_, rfl⟩⟩
  · refine .of_error (hcase.2 hlegal) ?_
    rw [ramRead_of_illegal hlegal, errorReply_of_read hread]

/-- A legal write completes with OKAY even while the lock refuses it (R161, R162, R297). -/
theorem ramWrite_repliesByCase {v : Word} (hwrite : readFormat t.fmt = false) (hbytes : formatBytes t.fmt = w.bytes)
    (hr : r ≠ .rx) (hat : r.At j t.addr) : RepliesByCase s t (ramWrite r w j v s) := by
  have hcase : BusErrorCase s.params t ↔ ¬(j % w.bytes = 0 ∧ j + w.bytes ≤ r.bytes s.params) := by
    simp [busErrorCase_iff_of_ram hat, hr, hbytes]
  by_cases hlegal : j % w.bytes = 0 ∧ j + w.bytes ≤ r.bytes s.params
  · refine .of_okay (fun hbad => hcase.1 hbad hlegal) ?_
    rw [ramWrite, if_pos (ramAccessOk_iff.2 hlegal)]
    exact lockedWrite_okay _ _
  · refine .of_error (hcase.2 hlegal) ?_
    rw [ramWrite_of_illegal v hlegal, errorReply_of_write hwrite]

/-- A write of the RX window gets the bus error, whatever its width and offset (R163). -/
theorem rxWindowWrite_repliesByCase (hwrite : readFormat t.fmt = false) (hat : Ram.rx.At j t.addr) :
    RepliesByCase s t (rxWindowWrite s) := by
  refine .of_error ((busErrorCase_iff_of_ram hat).2 (.inr ⟨rfl, hwrite⟩)) ?_
  rw [rxWindowWrite_eq, errorReply_of_write hwrite]

end ram

/-! ### The rows of each stage -/

/-- The rows of the registers and of the reserved offsets complete with OKAY. -/
theorem registerRows_okay {r : OpcodeRow} (hr : r ∈ registerRows ++ reservedRows) (a d : Word) (s : State) :
    CompletesOkay (exec (r.build a d) s) := by
  revert r
  rw [← List.forall_iff_forall_mem]
  repeat' apply And.intro
  any_goals exact readRegister_okay _ _
  any_goals exact lockedWrite_okay _ _
  all_goals exact replyOkay_okay _

/-- The rows of the illegal and of the unmapped accesses answer the bus error and nothing else (R164). -/
theorem errorRows_error {r : OpcodeRow} (hr : r ∈ illegalRows ++ opcodeRowsUnmapped) (a d : Word) (s : State) :
    exec (r.build a d) s = .next { s with reply := errorReply r.fmt } := by
  revert r
  rw [← List.forall_iff_forall_mem]
  repeat' apply And.intro
  all_goals rfl

/-- The rows of a RAM window read or write their RAM. -/
theorem ramRows_repliesByCase {r : OpcodeRow} (hr : r ∈ opcodeRowsRam) {a d : Word}
    (ha : a &&& r.addrMask = r.addrMatch) (s : State) :
    RepliesByCase s ⟨r.fmt, a, d⟩ (exec (r.build a d) s) := by
  revert r
  rw [← List.forall_iff_forall_mem]
  repeat' apply And.intro
  all_goals intro ha
  any_goals exact ramRead_repliesByCase rfl rfl (Ram.at_of_windowMask _ ha)
  any_goals exact ramWrite_repliesByCase rfl rfl nofun (Ram.at_of_windowMask _ ha)
  all_goals exact rxWindowWrite_repliesByCase rfl (Ram.at_of_windowMask _ ha)

/-- Settles O10: by the stage of the opcode map whose row takes the transaction. -/
theorem busErrorExactlyInSixCases : Obligations.BusErrorExactlyInSixCases := by
  intro s t
  change RepliesByCase s t (exec (decode t) s)
  obtain ⟨r, -, hhits, hfind, hdecode⟩ := decode_row t
  have hwf := decode_wellFormed t
  obtain ⟨hfmt, ha, hd⟩ := OpcodeRow.hits_iff.1 hhits
  rw [hdecode]
  simp only [opcodeTable_eq_stages, List.find?_append, Option.or_eq_some_iff, List.find?_eq_none] at hfind
  obtain hr | ⟨-, hr | ⟨hillegal, hr | ⟨-, hr | ⟨-, hr⟩⟩⟩⟩ := hfind
  all_goals have hmem := List.mem_of_find?_eq_some hr
  · obtain ⟨hfmt32, hwindow, haligned, -⟩ := registerRows_hits hmem hhits
    exact .of_okay (not_busErrorCase_of_register hfmt32 hwindow haligned)
      (registerRows_okay (List.mem_append_left _ hmem) _ _ s)
  · obtain ⟨hwindow, hmisaligned⟩ := illegalRows_hits hmem hhits
    exact .of_error (busErrorCase_of_illegal hwindow hmisaligned)
      (hfmt ▸ errorRows_error (List.mem_append_left _ hmem) _ _ s)
  · obtain ⟨hfmt32, hwindow⟩ := reservedRows_hits hmem hhits
    have haligned := aligned_of_illegalRows_miss hfmt32 hwindow hillegal
    exact .of_okay (not_busErrorCase_of_register hfmt32 hwindow haligned)
      (registerRows_okay (List.mem_append_right _ hmem) _ _ s)
  · obtain ⟨f, a, d⟩ := t
    obtain rfl : r.fmt = f := hfmt
    exact ramRows_repliesByCase hmem ha s
  · have hregion := unmappedRows_spell hmem ⟨hfmt, ha, hd, hdecode.symm⟩ hwf
    exact .of_error (busErrorCase_of_unmapped hregion)
      (hfmt ▸ errorRows_error (List.mem_append_right _ hmem) _ _ s)

end Sys2Proof.Machine

/-!
PROOFS. The resets (O8, O22, O57) and the write lock (O21): a locked write is refused whatever its effect would be,
and every transaction the lock covers runs a locked write.
-/

namespace Sys2Proof.Machine

open Sys2Proof.Config

/-! ### The reset input -/

/-- The assertion of `rst` changes nothing else, asserted before or not. -/
theorem step_assertReset {s : State} {rest : List Event} (hs : s.schedule = .assertReset :: rest) :
    step s = .next { s with schedule := rest, rst := true } := by
  simp only [step, fetch, hs]
  rfl

section rstAsserted

variable {s : State} (hrst : s.rst = true) {rest : List Event}

include hrst

theorem step_bus_of_rst {t : Txn} (hs : s.schedule = .bus t :: rest) :
    step s = .next ((s.setSchedule rest).platformReply t.fmt) := by
  simp [step, fetch, hs, hrst]

theorem step_engineTurn_of_rst (hs : s.schedule = .engineTurn :: rest) : step s = .next (s.setSchedule rest) := by
  simp [step, fetch, hs, hrst]

/-- A busy engine does not go on by itself while `rst` is asserted (R330). -/
theorem step_unscheduled_of_rst (hs : s.schedule = []) : step s = .next s := by
  simp [step, fetch, hs, hrst]

theorem step_releaseReset_of_rst (hs : s.schedule = .releaseReset :: rest) :
    step s = .next (s.setSchedule rest).powerOnReset := by
  simp [step, fetch, hs, hrst]

end rstAsserted

/-- Settles O8, by the next event. -/
theorem resetInputHolds : Obligations.ResetInputHolds :=
  ⟨fun _ _ hs => step_assertReset hs, fun _ _ hrst =>
    ⟨fun _ hs => ⟨_, step_bus_of_rst hrst hs⟩, fun hs => step_engineTurn_of_rst hrst hs,
      fun hs => step_unscheduled_of_rst hrst hs, fun hs => step_releaseReset_of_rst hrst hs⟩⟩

/-! ### The values after a reset -/

/-- Settles O22: the soft reset resets each block and leaves the RAMs. -/
theorem softResetValues : Obligations.SoftResetValues := fun s d => exec_srst d s

theorem State.reset_inv : State.reset.Inv :=
  .of_reset rfl ⟨State.reset_mem_wf, fun _ hc => nomatch hc⟩ rfl rfl rfl

/-- Settles O57: the record is the reset value of each block, and `State.reset_inv`. -/
theorem resetSatisfiesInvariant : Obligations.ResetSatisfiesInvariant :=
  ⟨rfl, rfl, rfl, State.reset_inv⟩

/-! ### What a refused write does -/

/-- What becomes of a write the lock refuses: WERR is set, the reply is OKAY, and nothing else changes (R340). -/
def State.refuseWrite (s : State) : State := { s with enc := { s.enc with werr := true }, reply := .write .okay }

/-- A write that the lock refuses, whatever its effect would be. -/
theorem lockedWrite_of_busy {s : State} (hbusy : s.enc.busy = true) (f : State → State) :
    (.next (s.lockedWrite f) : StepResult) = .next s.refuseWrite :=
  congrArg Host.Outcome.next (if_pos hbusy)

/-- An access of a RAM that gets no bus error reaches the lock, which refuses it (R161, R162). -/
theorem ramWrite_of_busy {s : State} (hbusy : s.enc.busy = true) {t : Txn} (hok : ¬BusErrorCase s.params t) {r : Ram}
    {w : Width} (hbytes : formatBytes t.fmt = w.bytes) {j : Nat} (hat : r.At j t.addr) {v : Word} :
    ramWrite r w j v s = .next s.refuseWrite := by
  have hlegal : j % w.bytes = 0 ∧ j + w.bytes ≤ r.bytes s.params := by
    rw [busErrorCase_iff_of_ram hat, not_or, not_not, hbytes] at hok
    exact hok.1
  exact (if_pos (ramAccessOk_iff.2 hlegal)).trans (lockedWrite_of_busy hbusy _)

/-! ### The transactions the lock covers -/

/-- The addresses of the registers a render uses, which the lock covers: ENC_CTRL, ENC_SPW, ENC_AMP, ENC_START_OFF,
ENC_LEN and the eight ENC_INC (R340). -/
def LockedRegisterAt (a : Nat) : Prop :=
  a = 0x100 ∨ a = 0x108 ∨ a = 0x10C ∨ a = 0x110 ∨ a = 0x114 ∨ (0x120 ≤ a ∧ a ≤ 0x13C)

theorem LockedRegisterAt.bounds {a : Nat} (h : LockedRegisterAt a) : 0x100 ≤ a ∧ a ≤ 0x13C := by
  unfold LockedRegisterAt at h
  omega

/-- The rows that write a locked register are locked writes, START included; every other row of the registers reads
or stands at an address of its own. -/
theorem registerRows_of_busy {r : OpcodeRow} (hr : r ∈ registerRows) {a : Word} (ha : a &&& r.addrMask = r.addrMatch)
    (hlocked : LockedRegisterAt a.toNat) (hwrite : readFormat r.fmt = false) {s : State} (hbusy : s.enc.busy = true)
    (d : Word) : exec (r.build a d) s = .next s.refuseWrite := by
  revert r
  rw [← List.forall_iff_forall_mem]
  repeat' apply And.intro
  all_goals intro ha hwrite
  any_goals cases hwrite
  any_goals exact lockedWrite_of_busy hbusy _
  all_goals
    simp [and_registerMask, and_indexedMask] at ha
    simp [LockedRegisterAt] at hlocked
    omega

/-- The rows that write TX RAM or PCM RAM are locked writes; those that write the RX window get the bus error
(R163). -/
theorem ramRows_of_busy {r : OpcodeRow} (hr : r ∈ opcodeRowsRam) {a d : Word} (ha : a &&& r.addrMask = r.addrMatch)
    (hwrite : readFormat r.fmt = false) {s : State} (hok : ¬BusErrorCase s.params ⟨r.fmt, a, d⟩)
    (hbusy : s.enc.busy = true) : exec (r.build a d) s = .next s.refuseWrite := by
  revert r
  rw [← List.forall_iff_forall_mem]
  repeat' apply And.intro
  all_goals intro ha hwrite hok
  any_goals cases hwrite
  any_goals
    refine ramWrite_of_busy hbusy hok rfl ?_
    exact Ram.at_of_windowMask _ ha
  all_goals
    have hat := Ram.at_of_windowMask .rx ha
    exact absurd ((busErrorCase_iff_of_ram hat).2 (.inr ⟨rfl, rfl⟩)) hok

/-- Settles O21: by the stage of the opcode map whose row takes the transaction. A row of the registers or of a RAM
window runs a locked write; the other rows take no locked register, or a transaction that gets the bus error. -/
theorem lockedWritesIgnoredWhileBusy : Obligations.LockedWritesIgnoredWhileBusy := by
  intro s t hbusy hwrite hok haddr
  change exec (decode t) s = .next s.refuseWrite
  have hlocked (hwindow : t.addr.toNat < 1024) : LockedRegisterAt t.addr.toNat := by
    unfold LockedRegisterAt
    omega
  obtain ⟨r, -, hhits, hfind, hdecode⟩ := decode_row t
  have hwf := decode_wellFormed t
  obtain ⟨hfmt, ha, hd⟩ := OpcodeRow.hits_iff.1 hhits
  rw [hdecode]
  simp only [opcodeTable_eq_stages, List.find?_append, Option.or_eq_some_iff, List.find?_eq_none] at hfind
  obtain hr | ⟨hregister, hr | ⟨hillegal, hr | ⟨-, hr | ⟨-, hr⟩⟩⟩⟩ := hfind
  all_goals have hmem := List.mem_of_find?_eq_some hr
  · obtain ⟨-, hwindow, -, -⟩ := registerRows_hits hmem hhits
    exact registerRows_of_busy hmem ha (hlocked hwindow) (hfmt ▸ hwrite) hbusy _
  · obtain ⟨hwindow, hmisaligned⟩ := illegalRows_hits hmem hhits
    exact absurd (busErrorCase_of_illegal hwindow hmisaligned) hok
  · obtain ⟨hfmt32, hwindow⟩ := reservedRows_hits hmem hhits
    have haligned := aligned_of_illegalRows_miss hfmt32 hwindow hillegal
    obtain ⟨q, hq, hqhits⟩ := exists_encRow hfmt32 haligned (hlocked hwindow).bounds
    exact absurd hqhits (hregister q (by simp [registerRows, hq]))
  · obtain ⟨f, a, d⟩ := t
    obtain rfl : r.fmt = f := hfmt
    exact ramRows_of_busy hmem ha hwrite hok hbusy
  · exact absurd (busErrorCase_of_unmapped (unmappedRows_spell hmem ⟨hfmt, ha, hd, hdecode.symm⟩ hwf)) hok

end Sys2Proof.Machine
